-- ==== Sys2Proof/Word.lean ====
section
/-! DEFINITION. The number formats of the MZ-280 (spec/00_scope.md, "Number formats"). -/

namespace Sys2Proof

/-- A byte of an air frame, of the settings store, or a block-code mantissa. -/
abbrev Byte := BitVec 8

/-- An audio sample: a 16-bit two's-complement integer. -/
abbrev Sample := BitVec 16

/-- A sequence number: 12 bits, arithmetic modulo 4096. -/
abbrev Seq := BitVec 12

/-- A group tag. The value 0 means that the station has no group. -/
abbrev Tag := BitVec 16

/-- A unit identifier. Identifiers are compared as unsigned numbers. -/
abbrev UnitId := BitVec 32

/-- A station number, 0 to 7. It also indexes the Peer Table. -/
abbrev Station := Fin 8

/-- A block: 64 consecutive samples. -/
abbrev Block := Vector Sample 64

/-- The 64 mantissas of a coded block (R4). -/
abbrev Mantissas := Vector Byte 64

/-- The settings store image: 32 bytes (R172). -/
abbrev Image := Vector Byte 32

/-- The 64 accumulators of a computation, 32-bit two's complement (R132). -/
abbrev Accumulators := Vector (BitVec 32) 64

/-- A block of 64 zero samples. -/
def zeroBlock : Block := Vector.replicate 64 0

/-- Unity in Q1.15 (spec/00_scope.md, "Number formats"). -/
def unityGain : Nat := 32768

end Sys2Proof
end

