-- ==== Sys2Proof/Syntax.lean ====
section
/-! DEFINITION. The events the MZ-280 takes: one constructor for each row of
spec/opcode_table.json. The table gives a row no fields; an operand here is what the event brings
from outside the part, or the Peer Table entry it happens to (notes/assumptions/12.md). -/

namespace Sys2Proof

/-- One event of the block. -/
inductive Instr where
  /-- RESETN falls (R36). -/
  | resetnLow
  /-- RESETN rises (R172). -/
  | startUp
  /-- SSN rises at the end of the start-up read; `smi` is the 256 bits sampled on SMI while the part
  clocked in the data bytes, in order (R171, R172). -/
  | startUpReadComplete (smi : Vector Bool 256)
  /-- RXV rises (R11). -/
  | receptionStart
  /-- RXV falls outside a reception (R11). -/
  | blankedRxvFall
  /-- RXV falls in RECEIVING (R12). -/
  | frameArrival
  /-- The 4 ms tick of the crystal, whole (R172). -/
  | airTick
  /-- The presence count's share of an air tick that brings it to 256 (R27). -/
  | presenceCountExpiry
  /-- The offer count's share of an air tick that brings it to 32 (R28). -/
  | offerCountExpiry
  /-- The start timer's share of an air tick that brings it to 64 (R40). -/
  | listeningPeriodExpiry
  /-- The clash wait's share of an air tick that brings it to 64 (R46). -/
  | clashWaitExpiry
  /-- The retry count's share of an air tick that brings it to 256 (R47). -/
  | listenOnlyRetry
  /-- The window timer's share of an air tick that brings it to 15,000 (R49). -/
  | windowClose
  /-- A HEARD entry's share of an air tick that brings its silence count to 64 (R60). -/
  | heardTimeout (entry : Station)
  /-- An ADMITTED entry's share of an air tick that brings its silence count to 250 (R61). -/
  | stale (entry : Station)
  /-- A STALE entry's share of an air tick that brings its silence count to 500 (R63). -/
  | peerLost (entry : Station)
  /-- CBSY rises (R31). -/
  | cbsyRise
  /-- CBSY falls (R31). -/
  | cbsyFall
  /-- The gap timer runs out (R32). -/
  | gapExpiry
  /-- The last bit of the frame being sent has gone out (R33). -/
  | transmissionEnd
  /-- The end of port frame 63; `adi` is the P bits sampled on ADI in that frame, bit clock 0 first (R157). -/
  | blockEvent (adi : List Bool)
  /-- A queue's share of a block event whose take brings its concealment count to 25 (R91). -/
  | queueLapse (entry : Station)
  /-- The Drift Tracker's share of a block event whose take brings a queue's depth count to L (R104). -/
  | driftWindowClose (entry : Station)
  /-- The Mix Engine finishes the computation in flight (R139). -/
  | computationComplete
  /-- A frame mark on AFRM; `spacing` is its spacing in rising ABCK edges (R153). -/
  | frameMark (spacing : Nat)
  /-- 125 µs of the crystal have passed since the latest mark (R153, R154). -/
  | missedMark
  /-- The store unit's share of an air tick that starts a tag write (R175). -/
  | tagWriteStart
  /-- SSN rises at the end of the write transaction (R176). -/
  | writeTransactionEnd
  /-- The 5 ms write time ends (R176). -/
  | writeTimeEnd
  /-- SSN rises at the end of the read-back; the eight bits sampled on SMI for each of its two data
  bytes, in order (R171, R176). -/
  | writeCompletion (first second : Vector Bool 8)
  /-- Eight bits have been sampled in RECEIVING; `rxd` is the eight bits sampled on RXD at the edges of
  RXC, in order (R1, R11). -/
  | byteComplete (rxd : Vector Bool 8)
  /-- The end of a port frame other than 63; `adi` as for `blockEvent` (R158). -/
  | portFrameEnd (adi : List Bool)
  deriving DecidableEq, Repr

end Sys2Proof
end

