-- ==== Sys2Proof/Decode.lean ====
section
/-! DEFINITION. The events a word of bits spells. No row of spec/opcode_table.json gives bits: the
part's events come on pins and from its own time bases, not as words (notes/assumptions/18.md). -/

namespace Sys2Proof

/-- The event whose table bits are `w`. The table gives no row any bits, so no word spells an event. -/
def decodeTableWord (_nbits _w : Nat) : Option Instr := none

end Sys2Proof
end

