-- ==== Sys2Proof/Config.lean ====
section
/-! DEFINITION. What the spec leaves to each part or leaves open. The constants have no body, so
nothing can be proved of their values. -/

namespace Sys2Proof

/-- The unit identifier set at manufacture, different in every part (R37; notes/assumptions/6.md). -/
opaque Config.unitIdentifier : UnitId

/-- Whether, at the air tick with this index, a number choice that falls due is made before the
Peer Table's entries time out. The rules give no order (notes/assumptions/7.md). -/
opaque Config.choiceBeforeTimeouts : Nat → Bool

end Sys2Proof
end

