-- ==== Sys2Proof/Machine/State.lean ====
section
/-! DEFINITION. The state of the MZ-280: every piece of state the spec gives its eleven blocks, as
plain data, and the state after reset (RESETN low, every block at its power-on values). -/

namespace Sys2Proof.Machine

/-! ## Stored settings (R174) -/

/-- The stored role (spec/00_scope.md). -/
inductive Role where | bud | gateway
  deriving DecidableEq, Repr

/-- The LAP's clock source (R149). -/
inductive ClockSource where | master | slave
  deriving DecidableEq, Repr

/-- Where AFRM marks a frame: on the bit clock before bit clock 0, or on it (R147). -/
inductive MarkPosition where | early | onBitZero
  deriving DecidableEq, Repr

/-- What a playback lane carries (R142). -/
inductive LaneContent where | mix | capture | status | zero
  deriving DecidableEq, Repr

/-- The transmit cadence (chapter 2). -/
inductive Cadence where | paced | onData
  deriving DecidableEq, Repr

/-- How ATTN is driven (R170). -/
inductive AttnDrive where | pushPull | openDrain
  deriving DecidableEq, Repr

/-- One Bool for each of the fourteen sticky flags (R168). -/
structure Flags where
  checkFail : Bool
  malformed : Bool
  foreign : Bool
  superseded : Bool
  underrun : Bool
  clash : Bool
  full : Bool
  paired : Bool
  storeFail : Bool
  lapLost : Bool
  peerLapse : Bool
  peerLost : Bool
  accSat : Bool
  outClip : Bool
  deriving DecidableEq, Repr

/-- All fourteen clear. -/
def Flags.clear : Flags :=
  { checkFail := false, malformed := false, foreign := false, superseded := false, underrun := false
    clash := false, full := false, paired := false, storeFail := false, lapLost := false
    peerLapse := false, peerLost := false, accSat := false, outClip := false }

/-- The stored settings, but for the group tag, which Station Control holds (R174). -/
structure Settings where
  role : Role
  preferred : Station
  clock : ClockSource
  slotCount : Nat
  slotWidth : Nat
  markPosition : MarkPosition
  captureSlot : Fin 8
  controlSlot : Fin 8
  lane0Content : LaneContent
  lane0Slot : Fin 8
  lane1Content : LaneContent
  lane1Slot : Fin 8
  transmitMask : BitVec 8
  cadence : Cadence
  targetDepth : Nat
  driftWindow : Nat
  gateFloor : Nat
  farGain : Nat
  sidetoneGain : Nat
  nearGain : Nat
  scanLimit : Nat
  attnDrive : AttnDrive
  enables : Flags
  deriving DecidableEq, Repr

/-- The defaults of R174 for an invalid image, with the BUD gains of R121 (R173). -/
def Settings.default : Settings :=
  { role := .bud, preferred := 0, clock := .master, slotCount := 4, slotWidth := 16
    markPosition := .early, captureSlot := 0, controlSlot := 3
    lane0Content := .mix, lane0Slot := 1, lane1Content := .status, lane1Slot := 2
    transmitMask := 0b00000110#8, cadence := .paced, targetDepth := 3, driftWindow := 128
    gateFloor := 64, farGain := 32768, sidetoneGain := 4096, nearGain := 8192, scanLimit := 7
    attnDrive := .openDrain, enables := Flags.clear }

/-! ## Air Frame Port -/

/-- The receive side's state (R11). -/
inductive ReceiveState where | off | ready | receiving | blanked
  deriving DecidableEq, Repr

/-- The receive side of the AFP (section 1.6). -/
structure ReceiveSide where
  state : ReceiveState
  /-- The whole bytes kept of the frame, at most 71. -/
  buffer : List Byte
  byteCount : Nat
  crc : BitVec 16
  /-- The bits of the byte in assembly. -/
  bits : List Bool
  deriving DecidableEq, Repr

/-- Power-on state of the receive side (R14; notes/assumptions/10.md). -/
def ReceiveSide.powerOn : ReceiveSide :=
  { state := .off, buffer := [], byteCount := 0, crc := 0xFFFF#16, bits := [] }

/-- The transmit side's state (R31). -/
inductive TransmitState where | off | idle | defer | gap | sending
  deriving DecidableEq, Repr

/-- The transmit side of the AFP (section 2.6). -/
structure TransmitSide where
  state : TransmitState
  /-- The full gap being timed, in µs. -/
  gapTimer : Option Nat
  /-- The bytes of the frame being sent, its CRC included. -/
  onAir : Option (List Byte)
  deriving DecidableEq, Repr

/-- Power-on state of the transmit side (R36; notes/assumptions/14.md). -/
def TransmitSide.powerOn : TransmitSide := { state := .off, gapTimer := none, onAir := none }

/-! ## Transmit Scheduler -/

/-- The reason a HOLD frame carries (R3). -/
inductive HoldReason where | muted | underrun | lapLost
  deriving DecidableEq, Repr

/-- The held capture block (R21). -/
structure HeldBlock where
  seq : Seq
  samples : Block
  deriving DecidableEq, Repr

/-- What the audio position holds: the parts of a frame fixed when it was made (R24). -/
inductive AudioFrame where
  | voice (seq : Seq) (exponent : Nat) (mantissas : Mantissas)
  | hold (seq : Seq) (reason : HoldReason)
  deriving DecidableEq, Repr

/-- What the announce position holds (R24). -/
inductive AnnounceFrame where | presence | offer
  deriving DecidableEq, Repr

/-- The Transmit Scheduler (section 2.1). -/
structure Scheduler where
  sequence : Seq
  held : Option HeldBlock
  audio : Option AudioFrame
  announce : Option AnnounceFrame
  presenceCount : Nat
  offerCount : Nat
  deriving DecidableEq, Repr

/-- Power-on state of the Scheduler (R36). -/
def Scheduler.powerOn : Scheduler :=
  { sequence := 0, held := none, audio := none, announce := none, presenceCount := 0, offerCount := 0 }

/-! ## Station Control -/

/-- The self states (R38). -/
inductive SelfState where | unpaired | starting | active | clashed | listenOnly
  deriving DecidableEq, Repr

/-- Station Control (chapter 3). A timer that is stopped, and a window that is closed, is `none`. -/
structure StationControl where
  selfState : SelfState
  number : Option Station
  tag : Tag
  unitId : UnitId
  window : Option Nat
  startTimer : Option Nat
  clashWait : Option Nat
  retryCount : Option Nat
  deriving DecidableEq, Repr

/-- Power-on state of Station Control; no reset changes the unit identifier (R37, R39). -/
def StationControl.powerOn (unitId : UnitId) : StationControl :=
  { selfState := .unpaired, number := none, tag := 0, unitId := unitId, window := none
    startTimer := none, clashWait := none, retryCount := none }

/-! ## Peer Table, Receive Queues, Drift Tracker, input records -/

/-- The state of a Peer Table entry (R55). -/
inductive EntryState where | free | heard | admitted | stale
  deriving DecidableEq, Repr

/-- The class of a station's audio (R3). -/
inductive AudioClass where | near | far
  deriving DecidableEq, Repr

/-- The pending conditions of an entry, a set (R55). `admission` is ADMIT. -/
structure Conditions where
  late : Bool
  duplicate : Bool
  ahead : Bool
  gap : Bool
  dry : Bool
  lapse : Bool
  admission : Bool
  deriving DecidableEq, Repr

/-- The empty set of conditions. -/
def Conditions.empty : Conditions :=
  { late := false, duplicate := false, ahead := false, gap := false, dry := false
    lapse := false, admission := false }

/-- A Peer Table entry (R55). -/
structure Entry where
  state : EntryState
  cls : AudioClass
  unitId : Option UnitId
  admission : Nat
  silence : Nat
  conditions : Conditions
  refused : Bool
  deriving DecidableEq, Repr

/-- Power-on values of an entry (R55). -/
def Entry.powerOn : Entry :=
  { state := .free, cls := .near, unitId := none, admission := 0, silence := 0
    conditions := Conditions.empty, refused := false }

/-- The state of a receive queue (R74). -/
inductive QueueState where | idle | priming | playing
  deriving DecidableEq, Repr

/-- A slot of a queue: one held block with its sequence number (R74). -/
structure Slot where
  seq : Seq
  samples : Block
  deriving DecidableEq, Repr

/-- The place the next take reads from (R74). -/
structure Cursor where
  block : Seq
  offset : Fin 64
  deriving DecidableEq, Repr

/-- A one-sample correction (R74). -/
inductive Correction where | slip | stretch
  deriving DecidableEq, Repr

/-- A receive queue (R74). `start` is the window start W, `concealed` the concealment count c,
`correction` the drift pending. -/
structure Queue where
  state : QueueState
  slots : List Slot
  start : Option Seq
  cursor : Option Cursor
  concealed : Nat
  lastGood : Block
  correction : Option Correction
  deriving DecidableEq, Repr

/-- Power-on values of a queue (R74). -/
def Queue.powerOn : Queue :=
  { state := .idle, slots := [], start := none, cursor := none, concealed := 0
    lastGood := zeroBlock, correction := none }

/-- The Drift Tracker's two numbers for a queue (R101). -/
structure DriftSums where
  depthSum : Nat
  depthCount : Nat
  deriving DecidableEq, Repr

/-- Both sums 0 (R101). -/
def DriftSums.zero : DriftSums := { depthSum := 0, depthCount := 0 }

/-- An input record of the Level and Gain Unit (R114). -/
structure InputRecord where
  blockLevel : Nat
  smoothed : Nat
  target : Nat
  applied : Nat
  deriving DecidableEq, Repr

/-- A record of an input that is not in the mix (R114, R118). -/
def InputRecord.zero : InputRecord := { blockLevel := 0, smoothed := 0, target := 0, applied := 0 }

/-- A Peer Table entry with the queue, drift sums and input record that belong to it (R55). -/
structure Peer where
  entry : Entry
  queue : Queue
  drift : DriftSums
  record : InputRecord
  deriving DecidableEq, Repr

/-- Power-on values of an entry and what belongs to it. -/
def Peer.powerOn : Peer :=
  { entry := Entry.powerOn, queue := Queue.powerOn, drift := DriftSums.zero, record := InputRecord.zero }

/-! ## Mix Engine -/

/-- The engine's state (R132). -/
inductive EngineState where | idle | computing
  deriving DecidableEq, Repr

/-- Where a mix input comes from: its group and, for a peer, its station number (R115). -/
inductive InputSource where
  | sidetone
  | peer (cls : AudioClass) (number : Station)
  deriving DecidableEq, Repr

/-- An input of a computation as it was handed (R129). -/
structure MixInput where
  source : InputSource
  block : Block
  gain : Nat
  deriving DecidableEq, Repr

/-- The Mix Engine (R132). -/
structure MixEngine where
  state : EngineState
  inputs : List MixInput
  trimGain : Nat
  accumulators : Accumulators
  accSatCause : Bool
  outClipCause : Bool
  discard : Bool
  lastAccSat : Bool
  lastOutClip : Bool
  ready : Option Block
  trimStep : Fin 16
  deriving DecidableEq, Repr

/-- Accumulators all 0. -/
def zeroAccumulators : Accumulators := Vector.replicate 64 0

/-- Power-on values of the engine (R132). -/
def MixEngine.powerOn : MixEngine :=
  { state := .idle, inputs := [], trimGain := unityGain, accumulators := zeroAccumulators
    accSatCause := false, outClipCause := false, discard := false, lastAccSat := false
    lastOutClip := false, ready := none, trimStep := 0 }

/-! ## Local Audio Port -/

/-- The LAP's lock state (R146). -/
inductive LockState where | off | unlocked | locked
  deriving DecidableEq, Repr

/-- The playback block: what each lane sends during the current block (R158). -/
structure Playback where
  lane0 : Block
  lane1 : Block
  deriving DecidableEq, Repr

/-- The LAP (R146). `assembly` is the capture block in assembly, in frame order. -/
structure Lap where
  lock : LockState
  markCount : Nat
  frameCounter : Nat
  leadIn : Bool
  assembly : List Sample
  playback : Option Playback
  heldWord : BitVec 16
  deriving DecidableEq, Repr

/-- Power-on values of the LAP (R146). -/
def Lap.powerOn : Lap :=
  { lock := .off, markCount := 0, frameCounter := 0, leadIn := false, assembly := []
    playback := none, heldWord := 0 }

/-! ## Status and Store Unit -/

/-- A transaction on the settings store: the bytes the part sends and how many data bytes it then
clocks in (R171). -/
structure StoreTransaction where
  sent : List Byte
  readBytes : Nat
  deriving DecidableEq, Repr

/-- The state of a tag write (R175). -/
inductive WriteState where | idle | writing | waiting | checking
  deriving DecidableEq, Repr

/-- The store half of the Status and Store Unit (R171, R175). `transaction` is the one under way,
so SSN is low while it is present. -/
structure StoreUnit where
  transaction : Option StoreTransaction
  writeQueue : Option Tag
  inProgress : Option Tag
  writeState : WriteState
  deriving DecidableEq, Repr

/-- Power-on values of the store half (R175, R177). -/
def StoreUnit.powerOn : StoreUnit :=
  { transaction := none, writeQueue := none, inProgress := none, writeState := .idle }

/-! ## The machine -/

/-- RESETN low, the start-up read under way, or start-up over (R172). -/
inductive PowerPhase where | held | reading | running
  deriving DecidableEq, Repr

/-- The state of the MZ-280. `tickDraws` and `pending` are the model's own: the index of the next
free order of Config (notes/assumptions/7.md), and the events that wait, oldest first. -/
structure State where
  phase : PowerPhase
  settings : Settings
  rxv : Bool
  cbsy : Bool
  receive : ReceiveSide
  transmit : TransmitSide
  scheduler : Scheduler
  control : StationControl
  peers : Vector Peer 8
  sidetone : InputRecord
  engine : MixEngine
  lap : Lap
  flags : Flags
  scanIndex : Nat
  store : StoreUnit
  tickDraws : Nat
  pending : List Instr
  deriving DecidableEq, Repr

/-- Why the machine would stop. The spec gives the part no stop: what is wrong is discarded,
reported by a flag or replaced by a default, so there is no fault. -/
inductive Fault where
  deriving DecidableEq, Repr

/-- Why an event would have no meaning. -/
inductive Refusal where
  /-- The event has no meaning in the model yet. Raised by an arm of `exec` alone; safe. No arm
  raises it. -/
  | notModelled (mnemonic : String)
  deriving DecidableEq, Repr

/-- The machine right after reset: RESETN low and every block at its power-on values. -/
def State.reset : State :=
  { phase := .held
    settings := Settings.default
    rxv := false
    cbsy := false
    receive := ReceiveSide.powerOn
    transmit := TransmitSide.powerOn
    scheduler := Scheduler.powerOn
    control := StationControl.powerOn Config.unitIdentifier
    peers := Vector.replicate 8 Peer.powerOn
    sidetone := InputRecord.zero
    engine := MixEngine.powerOn
    lap := Lap.powerOn
    flags := Flags.clear
    scanIndex := 0
    store := StoreUnit.powerOn
    tickDraws := 0
    pending := [] }

end Sys2Proof.Machine
end

