-- ==== Sys2Proof/Machine/Flags.lean ====
section
/-! DEFINITION. The sticky flags (R168, R169), the pending conditions (R100), and the attention
output (R170). -/

namespace Sys2Proof.Machine

/-- The names of the fourteen sticky flags (R168). -/
inductive Flag where
  | checkFail | malformed | foreign | superseded | underrun | clash | full
  | paired | storeFail | lapLost | peerLapse | peerLost | accSat | outClip
  deriving DecidableEq, Repr

/-- The fourteen flags by enable bit, bit 13 first (R168). -/
def allFlags : List Flag :=
  [.accSat, .outClip, .checkFail, .malformed, .foreign, .superseded, .underrun, .clash, .full,
   .paired, .storeFail, .lapLost, .peerLapse, .peerLost]

/-- Whether a flag is set. -/
def hasFlag (fl : Flags) : Flag → Bool
  | .checkFail => fl.checkFail
  | .malformed => fl.malformed
  | .foreign => fl.foreign
  | .superseded => fl.superseded
  | .underrun => fl.underrun
  | .clash => fl.clash
  | .full => fl.full
  | .paired => fl.paired
  | .storeFail => fl.storeFail
  | .lapLost => fl.lapLost
  | .peerLapse => fl.peerLapse
  | .peerLost => fl.peerLost
  | .accSat => fl.accSat
  | .outClip => fl.outClip

/-- Sets one flag and leaves the other thirteen (R168). -/
def withFlag (fl : Flags) : Flag → Flags
  | .checkFail => { fl with checkFail := true }
  | .malformed => { fl with malformed := true }
  | .foreign => { fl with foreign := true }
  | .superseded => { fl with superseded := true }
  | .underrun => { fl with underrun := true }
  | .clash => { fl with clash := true }
  | .full => { fl with full := true }
  | .paired => { fl with paired := true }
  | .storeFail => { fl with storeFail := true }
  | .lapLost => { fl with lapLost := true }
  | .peerLapse => { fl with peerLapse := true }
  | .peerLost => { fl with peerLost := true }
  | .accSat => { fl with accSat := true }
  | .outClip => { fl with outClip := true }

/-- An event sets a flag; one already set stays set (R168). -/
def setFlag (f : Flag) (s : State) : State := { s with flags := withFlag s.flags f }

/-- Sets a flag where a condition holds. -/
def setFlagIf (c : Bool) (f : Flag) (s : State) : State := if c then setFlag f s else s

/-- CLEAR clears all fourteen flags and no other state (R169). -/
def clearFlags (s : State) : State := { s with flags := Flags.clear }

/-- The enables of bytes 22 and 23, by the enable bits of R168. -/
def flagsOfBits (w : BitVec 16) : Flags :=
  { outClip := w.getLsbD 12, accSat := w.getLsbD 13
    checkFail := w.getLsbD 11, malformed := w.getLsbD 10, foreign := w.getLsbD 9
    superseded := w.getLsbD 8, underrun := w.getLsbD 7, clash := w.getLsbD 6, full := w.getLsbD 5
    paired := w.getLsbD 4, storeFail := w.getLsbD 3, lapLost := w.getLsbD 2
    peerLapse := w.getLsbD 1, peerLost := w.getLsbD 0 }

/-- ATTN is asserted while a flag whose enable bit is set is itself set (R170). -/
def attnAsserted (s : State) : Bool :=
  allFlags.any fun f => hasFlag s.flags f && hasFlag s.settings.enables f

/-- The union of two sets of pending conditions (R67). -/
def unionConditions (a b : Conditions) : Conditions :=
  { late := a.late || b.late, duplicate := a.duplicate || b.duplicate, ahead := a.ahead || b.ahead
    gap := a.gap || b.gap, dry := a.dry || b.dry, lapse := a.lapse || b.lapse
    admission := a.admission || b.admission }

end Sys2Proof.Machine
end

