-- ==== Sys2Proof/Machine/Operands.lean ====
section
/-! DEFINITION. What the operands of the events carry: the bits sampled on an input and the numbers they
make, the words of a port frame, the control word, the fields of an air frame, the settings image. -/

namespace Sys2Proof.Machine

/-- The number whose `width` bits are sampled from place `start` on, the most significant first
(R1, R148, R171). -/
def sampledNumber (bits : List Bool) (start width : Nat) : Nat :=
  (List.range width).foldl (fun acc j => 2 * acc + (bits.getD (start + j) false).toNat) 0

/-- Byte `i` of the bits sampled on RXD or on SMI, its first bit as bit 7 (R1, R171). -/
def sampledByte (bits : List Bool) (i : Nat) : Byte := BitVec.ofNat 8 (sampledNumber bits (8 * i) 8)

/-! ## Port frames (R147, R148, R151) -/

/-- The 16-bit number whose bits are sampled from bit clock `start` on, bit 15 first (R148). -/
def wordAt (adi : List Bool) (start : Nat) : BitVec 16 := BitVec.ofNat 16 (sampledNumber adi start 16)

/-- The first 16 bits of a slot are its sample; slot `k` begins at bit clock k × W (R147, R148). -/
def slotWord (g : Settings) (adi : List Bool) (slot : Fin 8) : BitVec 16 :=
  wordAt adi (slot.val * g.slotWidth)

/-- A slot index of S or more names no slot of the frame (R149). -/
def slotExists (g : Settings) (slot : Fin 8) : Bool := decide (slot.val < g.slotCount)

/-- The capture sample of a port frame; 0 where the capture slot names no slot (R149, R151). -/
def captureSample (g : Settings) (adi : List Bool) : Sample :=
  if slotExists g g.captureSlot then slotWord g adi g.captureSlot else 0

/-- The word of the control slot; none where the control slot names no slot (R149, R159). -/
def controlWord (g : Settings) (adi : List Bool) : Option (BitVec 16) :=
  if slotExists g g.controlSlot then some (slotWord g adi g.controlSlot) else none

/-- The capture block completed when frame 63's sample is appended to the samples in assembly,
sample i the sample of port frame i (R151). -/
def captureBlock (assembly : List Sample) (last : Sample) : Block :=
  Vector.ofFn fun i => (assembly ++ [last]).getD i.val 0

/-! ## The control word (R159) -/

/-- Bits 15 to 12 are 1010 in a valid word. -/
def wordValid (w : BitVec 16) : Bool := w.extractLsb' 12 4 == 0b1010#4

/-- MUTE, bit 11. -/
def wordMute (w : BitVec 16) : Bool := w.getLsbD 11

/-- TRIM, bits 10 to 7. -/
def wordTrim (w : BitVec 16) : Fin 16 := (w.extractLsb' 7 4).toFin

/-- PAIR, bit 6. -/
def wordPair (w : BitVec 16) : Bool := w.getLsbD 6

/-- FORGET, bit 5. -/
def wordForget (w : BitVec 16) : Bool := w.getLsbD 5

/-- CLEAR, bit 4. -/
def wordClear (w : BitVec 16) : Bool := w.getLsbD 4

/-- The mute in force: MUTE of the held word (R160). -/
def muted (s : State) : Bool := wordMute s.lap.heldWord

/-! ## Air frame fields (R2 to R5) -/

/-- The four kinds of frame (R2). -/
inductive FrameKind where | voice | hold | presence | offer
  deriving DecidableEq, Repr

/-- The kind a code names; 0 and 5 to 15 name none (R2). -/
def kindOfCode : Nat → Option FrameKind
  | 1 => some .voice
  | 2 => some .hold
  | 3 => some .presence
  | 4 => some .offer
  | _ => none

/-- The code of a kind (R2). -/
def kindCode : FrameKind → BitVec 4
  | .voice => 1
  | .hold => 2
  | .presence => 3
  | .offer => 4

/-- The fixed length of a kind in bytes (R2). -/
def kindLength : FrameKind → Nat
  | .voice => 71
  | .hold => 7
  | .presence => 12
  | .offer => 11

/-- The class bit: 1 for FAR, 0 for NEAR (R3). -/
def classBit : AudioClass → BitVec 1
  | .far => 1
  | .near => 0

/-- The class a class bit names (R3). -/
def classOfBit (b : Bool) : AudioClass := if b then .far else .near

/-- The class a role sends (R3). -/
def roleClass : Role → AudioClass
  | .gateway => .far
  | .bud => .near

/-- The role code: 0 BUD, 1 GATEWAY (R4). -/
def roleCode : Role → BitVec 4
  | .bud => 0
  | .gateway => 1

/-- The hold reason code (R3). -/
def reasonCode : HoldReason → BitVec 4
  | .muted => 1
  | .underrun => 2
  | .lapLost => 3

/-- The self state code (R4). -/
def selfCode : SelfState → BitVec 4
  | .unpaired => 0
  | .starting => 1
  | .active => 2
  | .clashed => 3
  | .listenOnly => 4

/-- The fields a receiver reads from a frame's bytes (R3 to R5). -/
structure AirFrame where
  kind : FrameKind
  cls : AudioClass
  sender : Station
  tag : Tag
  seq : Seq
  /-- The kind field: exponent of a VOICE, reason of a HOLD. -/
  field : BitVec 4
  /-- Bytes 5 to 8 of a PRESENCE or an OFFER. -/
  unitId : UnitId
  /-- Bytes 5 to 68 of a VOICE. -/
  mantissas : Mantissas
  deriving DecidableEq, Repr

/-- Byte `i` of the frame held in the buffer. -/
def byteOf (buffer : List Byte) (i : Nat) : Byte := buffer.getD i 0

/-- The fields at the places R5 gives them. -/
def readFrame (kind : FrameKind) (buffer : List Byte) : AirFrame :=
  { kind := kind
    cls := classOfBit ((byteOf buffer 0).getLsbD 3)
    sender := ((byteOf buffer 0).extractLsb' 0 3).toFin
    tag := byteOf buffer 1 ++ byteOf buffer 2
    seq := byteOf buffer 3 ++ (byteOf buffer 4).extractLsb' 4 4
    field := (byteOf buffer 4).extractLsb' 0 4
    unitId := byteOf buffer 5 ++ byteOf buffer 6 ++ byteOf buffer 7 ++ byteOf buffer 8
    mantissas := Vector.ofFn fun i => byteOf buffer (5 + i.val) }

/-! ## What the settings store sends (R171, R173, R174) -/

/-- The image that the start-up read clocks in: byte `i` at address `i` (R171, R172). -/
def smiImage (smi : Vector Bool 256) : Image := Vector.ofFn fun i => sampledByte smi.toList i.val

/-- Byte `i` of the image. -/
def imageByte (image : Image) (i : Nat) : Byte := image.toList.getD i 0

/-- A field of two bytes, high byte at the lower address (R174). -/
def imageWord (image : Image) (i : Nat) : BitVec 16 := imageByte image i ++ imageByte image (i + 1)

end Sys2Proof.Machine
end

