-- ==== Sys2Proof/Machine/Frames.lean ====
section
/-! DEFINITION. The frame check (R6, R7), the block code (R8, R9), the bytes of a frame the part
sends (R2 to R5, R24), and the form of a frame received (R15). -/

namespace Sys2Proof.Machine

/-! ## Frame check (R6) -/

/-- One bit into the check register (R6). -/
def crcBit (r : BitVec 16) (d : Bool) : BitVec 16 :=
  if d ^^ r.getLsbD 15 then (r <<< 1) ^^^ 0x1021#16 else r <<< 1

/-- The bits of a byte, bit 7 first (R1, R6). -/
def bitsOfByte (b : Byte) : List Bool :=
  [b.getLsbD 7, b.getLsbD 6, b.getLsbD 5, b.getLsbD 4, b.getLsbD 3, b.getLsbD 2, b.getLsbD 1, b.getLsbD 0]

/-- One byte into the check register, bit 7 first (R6). -/
def crcByte (r : BitVec 16) (b : Byte) : BitVec 16 := (bitsOfByte b).foldl crcBit r

/-- The check register loaded with all ones and fed the bytes in order (R6). -/
def crcOf (bytes : List Byte) : BitVec 16 := bytes.foldl crcByte 0xFFFF#16

/-- The CRC appended high byte first (R6). -/
def withCrc (bytes : List Byte) : List Byte :=
  bytes ++ [(crcOf bytes).extractLsb' 8 8, (crcOf bytes).extractLsb' 0 8]

/-! ## Block code (R8, R9) -/

/-- The unsaturated mantissa of a sample value at shift `e` (R8). -/
def rawMantissa (e : Nat) (x : Int) : Int := if e = 0 then x else (x + 2 ^ (e - 1)) / 2 ^ e

/-- The mantissa fits in 8 bits (R8). -/
def mantissaFits (m : Int) : Bool := decide (-128 ≤ m ∧ m ≤ 127)

/-- Every unsaturated mantissa of the block fits at shift `e` (R8). -/
def blockFits (e : Nat) (b : Block) : Bool := b.toList.all fun x => mantissaFits (rawMantissa e x.toInt)

/-- The block exponent: the smallest of 0 to 7 at which the block fits, else 8 (R8). -/
def blockExponent (b : Block) : Nat := ((List.range 8).find? fun e => blockFits e b).getD 8

/-- Saturates to -128 to 127 (R8). -/
def saturateMantissa (m : Int) : Int := max (-128) (min 127 m)

/-- The mantissas at shift `e`; only e = 8 can saturate one (R8). -/
def encodeMantissas (e : Nat) (b : Block) : Mantissas :=
  Vector.ofFn fun i => BitVec.ofInt 8 (saturateMantissa (rawMantissa e b[i].toInt))

/-- Each decoded sample is the mantissa times 2 to the exponent (R9). -/
def decodeBlock (e : Nat) (m : Mantissas) : Block :=
  Vector.ofFn fun i => BitVec.ofInt 16 (m[i].toInt * 2 ^ e)

/-! ## Frames the part sends (R3 to R5, R24) -/

/-- What is filled in at the rise of TXEN, from the values held at that moment (R24). -/
structure HeaderFill where
  cls : AudioClass
  number : Station
  tag : Tag
  sequence : Seq
  unitId : UnitId
  role : Role
  selfState : SelfState
  deriving DecidableEq, Repr

/-- The five header bytes (R5). -/
def headerBytes (kind : FrameKind) (h : HeaderFill) (seq : Seq) (field : BitVec 4) : List Byte :=
  [kindCode kind ++ classBit h.cls ++ BitVec.ofNat 3 h.number.val,
   h.tag.extractLsb' 8 8,
   h.tag.extractLsb' 0 8,
   seq.extractLsb' 4 8,
   seq.extractLsb' 0 4 ++ field]

/-- A unit identifier, most significant byte first (R1, R5). -/
def unitIdBytes (u : UnitId) : List Byte :=
  [u.extractLsb' 24 8, u.extractLsb' 16 8, u.extractLsb' 8 8, u.extractLsb' 0 8]

/-- The bytes of an audio frame, its CRC included. -/
def audioFrameBytes (h : HeaderFill) : AudioFrame → List Byte
  | .voice seq e m => withCrc (headerBytes .voice h seq (BitVec.ofNat 4 e) ++ m.toList)
  | .hold seq r => withCrc (headerBytes .hold h seq (reasonCode r))

/-- The bytes of an announcement, its CRC included. Both carry the current counter value (R24). -/
def announceFrameBytes (h : HeaderFill) : AnnounceFrame → List Byte
  | .presence =>
    withCrc (headerBytes .presence h h.sequence 0 ++ unitIdBytes h.unitId ++ [roleCode h.role ++ selfCode h.selfState])
  | .offer => withCrc (headerBytes .offer h h.sequence 0 ++ unitIdBytes h.unitId)

/-! ## Checks on a frame received (R7, R15) -/

/-- Check 1: three or more whole bytes and a check register of 0 (R7). -/
def frameCheckPasses (r : ReceiveSide) : Bool := decide (3 ≤ r.byteCount) && r.crc == 0

/-- Check 2 for a kind, beyond its length (R15). -/
def formItems (kind : FrameKind) (buffer : List Byte) : Bool :=
  let f := readFrame kind buffer
  let role := (byteOf buffer 9).extractLsb' 4 4
  let code := (byteOf buffer 9).extractLsb' 0 4
  match kind with
  | .voice => decide (f.field.toNat ≤ 8)
  | .hold => decide (1 ≤ f.field.toNat ∧ f.field.toNat ≤ 3)
  | .presence =>
    (role == 0 || role == 1) && (code == 2 || code == 3) && (f.cls == if role == 1 then .far else .near)
  | .offer => f.tag != 0

/-- Check 2: the frame as its kind reads it, or none where the form is wrong (R15). -/
def formCheck (r : ReceiveSide) : Option AirFrame :=
  match kindOfCode ((byteOf r.buffer 0).extractLsb' 4 4).toNat with
  | none => none
  | some kind =>
    if r.byteCount = kindLength kind ∧ formItems kind r.buffer then some (readFrame kind r.buffer) else none

end Sys2Proof.Machine
end

