-- ==== Sys2Proof/Machine/Queues.lean ====
section
/-! DEFINITION. The receive queue (chapter 5) and the Drift Tracker (chapter 6), as operations on
one Peer: flushes, the arrival of a block, and the take. -/

namespace Sys2Proof.Machine

/-! ## Flushes (R76) -/

/-- A flush of the queue into a state: every field but the last good block (R76). -/
def flushQueue (dest : QueueState) (q : Queue) : Queue :=
  { q with state := dest, slots := [], start := none, cursor := none, concealed := 0, correction := none }

/-- A flush with what goes with it: the drift sums become 0 (R76, R107), and the input leaves the
mix, its record 0 (R118). The record of an input that is not in the mix is 0 already. -/
def flushPeer (dest : QueueState) (p : Peer) : Peer :=
  { p with queue := flushQueue dest p.queue, drift := DriftSums.zero, record := InputRecord.zero }

/-- A flush to PRIMING of a queue that is PRIMING or PLAYING; an IDLE queue is left (R65, R99). -/
def flushIfActive (p : Peer) : Peer :=
  match p.queue.state with
  | .idle => p
  | .priming => flushPeer .priming p
  | .playing => flushPeer .priming p

/-- Records a pending condition of the entry (R100). -/
def withConditions (c : Conditions) (p : Peer) : Peer :=
  { p with entry := { p.entry with conditions := unionConditions p.entry.conditions c } }

/-! ## Arrival of a block (R77 to R83) -/

/-- The slot held for a sequence number (R74). -/
def slotFor (q : Queue) (seq : Seq) : Option Slot := q.slots.find? fun x => x.seq == seq

/-- A slot is held for the sequence number. -/
def holdsSeq (q : Queue) (seq : Seq) : Bool := (slotFor q seq).isSome

/-- A slot in its place in sequence order from W (R80). -/
def insertSlot (w : Seq) (x : Slot) : List Slot → List Slot
  | [] => [x]
  | y :: rest => if (x.seq - w).toNat < (y.seq - w).toNat then x :: y :: rest else y :: insertSlot w x rest

/-- The class of an arriving block by its place against the window (R79). -/
inductive Arrival where | inWindow | duplicate | ahead | late
  deriving DecidableEq, Repr

/-- The window test against window start `w` (R79). -/
def windowTest (w : Seq) (q : Queue) (seq : Seq) : Arrival :=
  let delta := (seq - w).toNat
  if delta ≤ 7 then (if holdsSeq q seq then .duplicate else .inWindow)
  else if delta ≤ 2047 then .ahead
  else .late

/-- A PRIMING queue that has reached D slots enters PLAYING at (W, 0) with a zero last good block (R83). -/
def enterPlaying (depth : Nat) (w : Seq) (q : Queue) : Queue :=
  if q.state = .priming ∧ depth ≤ q.slots.length then
    { q with state := .playing, cursor := some { block := w, offset := 0 }, lastGood := zeroBlock }
  else q

/-- A queue re-primed around one block: its only slot, W its number (R78, R82). -/
def primeAround (x : Slot) (p : Peer) : Peer :=
  let p' := flushPeer .priming p
  { p' with queue := { p'.queue with slots := [x], start := some x.seq } }

/-- A block offered to the queue of an entry (R77 to R83). -/
def offerBlock (depth : Nat) (x : Slot) (p : Peer) : Peer :=
  match p.queue.state, p.queue.start with
  | .idle, _ => p
  | _, none => { p with queue := { p.queue with slots := [x], start := some x.seq } }
  | _, some w =>
    match windowTest w p.queue x.seq with
    | .inWindow =>
      { p with queue := enterPlaying depth w { p.queue with slots := insertSlot w x p.queue.slots } }
    | .duplicate => withConditions { Conditions.empty with duplicate := true } p
    | .late => withConditions { Conditions.empty with late := true } p
    | .ahead => withConditions { Conditions.empty with ahead := true } (primeAround x p)

/-! ## The take (R84 to R91) -/

/-- The length k of a take (R85). -/
def takeLength (c : Option Correction) : Nat :=
  match c with
  | none => 64
  | some .slip => 65
  | some .stretch => 63

/-- Every block of the span of a take of length `k` is held (R85). -/
def spanHeld (q : Queue) (c : Cursor) (k : Nat) : Bool :=
  holdsSeq q c.block && (decide (c.offset.val + k ≤ 64) || holdsSeq q (c.block + 1))

/-- Sample `i` of the slot held for a sequence number; 0 where none is held. -/
def slotSample (q : Queue) (seq : Seq) (i : Nat) : Sample :=
  match slotFor q seq with
  | some x => x.samples.toList.getD i 0
  | none => 0

/-- Input sample `i` of a take: sample o + i of the blocks counted from s (R85). -/
def inputSample (q : Queue) (c : Cursor) (i : Nat) : Sample :=
  if c.offset.val + i < 64 then slotSample q c.block (c.offset.val + i)
  else slotSample q (c.block + 1) (c.offset.val + i - 64)

/-- The rounded mean floor((a + b + 1) / 2) of two samples (R86). -/
def meanSample (a b : Sample) : Sample := BitVec.ofInt 16 ((a.toInt + b.toInt + 1) / 2)

/-- The output of a played take (R86). -/
def playedBlock (q : Queue) (c : Cursor) : Block :=
  Vector.ofFn fun n =>
    match q.correction with
    | none => inputSample q c n.val
    | some .slip =>
      if n.val < 32 then inputSample q c n.val
      else if n.val = 32 then meanSample (inputSample q c 32) (inputSample q c 33)
      else inputSample q c (n.val + 1)
    | some .stretch =>
      if n.val < 32 then inputSample q c n.val
      else if n.val = 32 then meanSample (inputSample q c 31) (inputSample q c 32)
      else inputSample q c (n.val - 1)

/-- The fade factor for a new concealment count (R88). -/
def fadeFactor (c : Nat) : Nat :=
  if c ≤ 1 then 24576 else if c = 2 then 16384 else if c = 3 then 8192 else 0

/-- The last good block faded (R88). -/
def fadedBlock (c : Nat) (last : Block) : Block :=
  Vector.ofFn fun n => BitVec.ofInt 16 ((last[n].toInt * (fadeFactor c : Int) + 16384) / 32768)

/-- A slot is held for some sequence number from s + 1 to s + 7 (R89). -/
def heldBeyond (q : Queue) (s : Seq) : Bool :=
  q.slots.any fun x => decide (1 ≤ (x.seq - s).toNat ∧ (x.seq - s).toNat ≤ 7)

/-- GAP where a block is held beyond the cursor block, else DRY (R89). -/
def concealCondition (q : Queue) (s : Seq) : Conditions :=
  if heldBeyond q s then { Conditions.empty with gap := true } else { Conditions.empty with dry := true }

/-- The cursor advanced by `k`, W with it, and the slots it has passed removed (R90). -/
def advanceCursor (k : Nat) (c : Cursor) (q : Queue) : Queue :=
  let passed := (c.offset.val + k) / 64
  let block := c.block + BitVec.ofNat 12 passed
  { q with
    cursor := some { block := block, offset := ⟨(c.offset.val + k) % 64, Nat.mod_lt _ (by decide)⟩ }
    start := some block
    slots := q.slots.filter fun x => decide (passed ≤ (x.seq - c.block).toNat) }

/-- The queue after a played take (R87, R90). -/
def queuePlayed (c : Cursor) (q : Queue) : Queue :=
  advanceCursor (takeLength q.correction) c
    { q with lastGood := playedBlock q c, concealed := 0, correction := none }

/-- The queue after a concealed take (R88, R90). -/
def queueConcealed (c : Cursor) (q : Queue) : Queue :=
  advanceCursor 64 c { q with concealed := q.concealed + 1 }

/-- The take a queue would make is played: every block of its span is held (R85). -/
def takePlays (q : Queue) (c : Cursor) : Bool := spanHeld q c (takeLength q.correction)

/-- The depth sample handed to the Drift Tracker before the take (R84, R103). -/
def depthSampled (p : Peer) : Peer :=
  { p with drift := { depthSum := p.drift.depthSum + p.queue.slots.length, depthCount := p.drift.depthCount + 1 } }

/-- A concealed take that brings the count to 25 lapses the queue (R91). -/
def lapseIfDue (p : Peer) : Peer :=
  if 25 ≤ p.queue.concealed then
    withConditions { Conditions.empty with lapse := true } (flushPeer .priming p)
  else p

/-- The correction a window sum of `sum` over L takes calls for, and what is pending where it calls
for none (R104, R105). -/
def driftDecision (g : Settings) (sum : Nat) (pending : Option Correction) : Option Correction :=
  let mean := sum / g.driftWindow
  if g.targetDepth + 1 ≤ mean then some .slip
  else if mean + 1 ≤ g.targetDepth then some .stretch
  else pending

/-- The close of a drift window (R104). -/
def closeWindow (g : Settings) (p : Peer) : Peer :=
  { p with
    queue := { p.queue with correction := driftDecision g p.drift.depthSum p.queue.correction }
    drift := DriftSums.zero }

/-- The window closes at the end of the take whose sample brings the depth count to L (R104). -/
def closeWindowIfDue (g : Settings) (p : Peer) : Peer :=
  if g.driftWindow ≤ p.drift.depthCount then closeWindow g p else p

/-- A concealed take of the peer's queue, its condition, and the lapse it may bring (R88 to R91). -/
def concealPeer (c : Cursor) (p : Peer) : Peer :=
  lapseIfDue (withConditions (concealCondition p.queue c.block) { p with queue := queueConcealed c p.queue })

/-- A played take of the peer's queue (R86, R87). -/
def playPeer (c : Cursor) (p : Peer) : Peer := { p with queue := queuePlayed c p.queue }

/-- The cursor of a queue that takes at a block event: one that is PLAYING (R84). -/
def takeCursor (q : Queue) : Option Cursor :=
  match q.state with
  | .playing => q.cursor
  | .idle => none
  | .priming => none

/-- What a block event does to a peer's queue: the depth sample, the take, the lapse, and the close
of the drift window, which a lapse forestalls by clearing the sums (R84, R91, R104). -/
def takePeer (g : Settings) (p : Peer) : Peer :=
  match takeCursor p.queue with
  | none => p
  | some c =>
    let sampled := depthSampled p
    let taken := if takePlays p.queue c then playPeer c sampled else concealPeer c sampled
    closeWindowIfDue g taken

/-- The 64 output samples the take gives; none where the queue makes no take (R84). -/
def takeOutput (q : Queue) : Option Block :=
  match takeCursor q with
  | none => none
  | some c => some (if takePlays q c then playedBlock q c else fadedBlock (q.concealed + 1) q.lastGood)

/-- The queue's take at a block event would lapse it (R91). -/
def lapseDue (q : Queue) : Bool :=
  match takeCursor q with
  | none => false
  | some c => !takePlays q c && decide (25 ≤ q.concealed + 1)

end Sys2Proof.Machine
end

