-- ==== Sys2Proof/Machine/Levels.lean ====
section
/-! DEFINITION. The Level and Gain Unit (chapter 7): metering, smoothing, gain sharing and the ramp. -/

namespace Sys2Proof.Machine

/-- The magnitude of a sample, that of -32768 counted as 32767 (R119). -/
def magnitude (x : Sample) : Nat := min 32767 x.toInt.natAbs

/-- The block level: the mean magnitude, 0 below the gate floor (R119). -/
def meterLevel (floor : Nat) (b : Block) : Nat :=
  let level := (b.toList.map magnitude).sum / 64
  if level < floor then 0 else level

/-- The smoothed level after a block level: up by half the distance, down by a sixteenth, floors
toward minus infinity (R120). -/
def smoothLevel (level smoothed : Nat) : Nat :=
  let d : Int := (level : Int) - smoothed
  ((smoothed : Int) + if 0 < d then d / 2 else d / 16).toNat

/-- The target gain of one of `count` NEAR inputs with smoothed level `own`, of a total `total`
(R123, R124). -/
def nearTarget (share total count own : Nat) : Nat :=
  if 0 < total then share * own / total else share / count

/-- The applied gain moved toward the target by at most 2048 (R125). -/
def rampGain (applied target : Nat) : Nat :=
  if applied ≤ target then min target (applied + 2048) else max target (applied - 2048)

/-- A record with a new target and its ramp step taken (R125). -/
def rampTo (target : Nat) (r : InputRecord) : InputRecord :=
  { r with target := target, applied := rampGain r.applied target }

/-- A record metered over a block (R119, R120). -/
def meterRecord (floor : Nat) (b : Block) (r : InputRecord) : InputRecord :=
  let level := meterLevel floor b
  { r with blockLevel := level, smoothed := smoothLevel level r.smoothed }

/-- A peer after its take, with the block the take gave. -/
structure Taken where
  peer : Peer
  output : Option Block
  deriving DecidableEq, Repr

/-- The block of a peer input that is in the mix: the entry ADMITTED and the queue PLAYING after
this event's takes (R115). -/
def gatheredBlock (t : Taken) : Option Block :=
  if t.peer.entry.state = .admitted ∧ t.peer.queue.state = .playing then t.output else none

/-- The input is gathered in the NEAR group (R115). -/
def gatheredNear (t : Taken) : Bool := (gatheredBlock t).isSome && t.peer.entry.cls == .near

/-- A NEAR input is metered; no other record is (R119). -/
def meterTaken (floor : Nat) (t : Taken) : Taken :=
  match gatheredBlock t, t.peer.entry.cls with
  | some b, .near => { t with peer := { t.peer with record := meterRecord floor b t.peer.record } }
  | _, _ => t

/-- The NEAR total T: the sum of the NEAR inputs' smoothed levels (R123). -/
def nearTotal (ts : Vector Taken 8) : Nat :=
  ((ts.toList.filter gatheredNear).map fun t => t.peer.record.smoothed).sum

/-- The number of NEAR inputs (R124). -/
def nearCount (ts : Vector Taken 8) : Nat := (ts.toList.filter gatheredNear).length

/-- The target of a gathered peer input by its class (R122 to R124). -/
def peerTarget (g : Settings) (total count : Nat) (p : Peer) : Nat :=
  match p.entry.cls with
  | .far => g.farGain
  | .near => nearTarget g.nearGain total count p.record.smoothed

/-- The record of a gathered input after its target and ramp; a record that is not gathered is left. -/
def rampTaken (g : Settings) (total count : Nat) (t : Taken) : Taken :=
  if (gatheredBlock t).isSome then
    { t with peer := { t.peer with record := rampTo (peerTarget g total count t.peer) t.peer.record } }
  else t

/-- All peer records at a block event: metered, then targeted and ramped (R119 to R125). -/
def levelPeers (g : Settings) (ts : Vector Taken 8) : Vector Taken 8 :=
  let metered := Vector.ofFn fun k => meterTaken g.gateFloor ts[k]
  Vector.ofFn fun k => rampTaken g (nearTotal metered) (nearCount metered) metered[k]

/-- SIDETONE is gathered in a BUD that is not muted while the LAP is locked (R116). -/
def sidetoneGathered (s : State) : Bool :=
  s.settings.role == .bud && s.lap.lock == .locked && !muted s

/-- The SIDETONE record at a block event: targeted and ramped where gathered, else 0 (R116, R118, R122). -/
def levelSidetone (s : State) : InputRecord :=
  if sidetoneGathered s then rampTo s.settings.sidetoneGain s.sidetone else InputRecord.zero

/-- The peer inputs handed to the Mix Engine, by ascending number (R129). -/
def peerInputs (ts : Vector Taken 8) : List MixInput :=
  (List.finRange 8).filterMap fun k =>
    (gatheredBlock ts[k]).map fun b =>
      { source := .peer ts[k].peer.entry.cls k, block := b, gain := ts[k].peer.record.applied }

/-- The SIDETONE input, where it is gathered (R116, R129). -/
def sidetoneInput (s : State) (capture : Block) : List MixInput :=
  if sidetoneGathered s then [{ source := .sidetone, block := capture, gain := s.sidetone.applied }] else []

end Sys2Proof.Machine
end

