-- ==== Sys2Proof/Machine/Mix.lean ====
section
/-! DEFINITION. The Mix Engine (chapter 8): accumulation, rounding, clamp, trim, and the events of a
computation. -/

namespace Sys2Proof.Machine

/-! ## Arithmetic (R134 to R138) -/

/-- The inputs of one group and number. -/
def inputsOf (cls : AudioClass) (k : Station) (inputs : List MixInput) : List MixInput :=
  inputs.filter fun i => i.source == .peer cls k

/-- The order of addition: SIDETONE, then FAR, then NEAR, each by ascending number (R134). -/
def additionOrder (inputs : List MixInput) : List MixInput :=
  (inputs.filter fun i => i.source == .sidetone) ++
    ((List.finRange 8).flatMap fun k => inputsOf .far k inputs) ++
    ((List.finRange 8).flatMap fun k => inputsOf .near k inputs)

/-- Saturates to the accumulator's range (R135). -/
def saturate32 (v : Int) : Int := max (-2147483648) (min 2147483647 v)

/-- An exact sum lies outside the accumulator's range (R135). -/
def outside32 (v : Int) : Bool := decide (v < -2147483648 ∨ 2147483647 < v)

/-- The running sum at one index, and whether an addition so far had a sum outside the range. -/
structure Sum where
  acc : BitVec 32
  saturated : Bool
  deriving DecidableEq, Repr

/-- One addition at index `n`: the exact product, the exact sum, saturated (R135). -/
def addInput (n : Fin 64) (a : Sum) (i : MixInput) : Sum :=
  let exact := a.acc.toInt + i.block[n].toInt * (i.gain : Int)
  { acc := BitVec.ofInt 32 (saturate32 exact), saturated := a.saturated || outside32 exact }

/-- Every addition at index `n`, from the accumulator as it stands (R134, R135). -/
def sumAt (inputs : List MixInput) (start : BitVec 32) (n : Fin 64) : Sum :=
  (additionOrder inputs).foldl (addInput n) { acc := start, saturated := false }

/-- The sum rounded to a sample value, before the clamp (R136). -/
def roundSum (acc : BitVec 32) : Int := (acc.toInt + 16384) / 32768

/-- Clamps to the sample range (R136). -/
def clampSample (y : Int) : Int := max (-32768) (min 32767 y)

/-- The clamp changes the value (R136). -/
def clips (y : Int) : Bool := decide (y < -32768 ∨ 32767 < y)

/-- The trim gain of a step (R137). -/
def trimGainOf (step : Fin 16) : Nat :=
  [32768, 26029, 20675, 16423, 13045, 10362, 8231, 6538, 5193, 4125, 3277, 2603, 2068, 1642, 1305, 1036].getD step.val 32768

/-- A clamped value scaled by the trim gain (R138). -/
def trimSample (y : Int) (gain : Nat) : Int := (y * (gain : Int) + 16384) / 32768

/-- The output sample of an accumulator (R136, R138). -/
def outputSample (acc : BitVec 32) (gain : Nat) : Sample :=
  BitVec.ofInt 16 (trimSample (clampSample (roundSum acc)) gain)

/-! ## A computation (R133, R139, R140) -/

/-- The sums of the computation in flight at its 64 indices. -/
def computeSums (e : MixEngine) : Vector Sum 64 :=
  Vector.ofFn fun n => sumAt e.inputs e.accumulators[n] n

/-- The ACC_SAT cause of the computation in flight (R135). -/
def computeAccSat (e : MixEngine) : Bool := e.accSatCause || (computeSums e).toList.any fun a => a.saturated

/-- The OUT_CLIP cause of the computation in flight (R136). -/
def computeOutClip (e : MixEngine) : Bool :=
  e.outClipCause || (computeSums e).toList.any fun a => clips (roundSum a.acc)

/-- The output block of the computation in flight (R138). -/
def computeBlock (e : MixEngine) : Block :=
  Vector.ofFn fun n => outputSample (sumAt e.inputs e.accumulators[n] n).acc e.trimGain

/-- The engine after its completion (R139). -/
def completeEngine (e : MixEngine) : MixEngine :=
  { e with
    state := .idle
    inputs := []
    accumulators := Vector.ofFn fun n => (sumAt e.inputs e.accumulators[n] n).acc
    accSatCause := computeAccSat e
    outClipCause := computeOutClip e
    lastAccSat := computeAccSat e
    lastOutClip := computeOutClip e
    ready := if e.discard then e.ready else some (computeBlock e) }

/-- The engine at the begin of a computation. The playback block formed at the same event has taken
the ready block, or a computation still in flight is dropped and no block is ready (R133, R140, R141). -/
def beginEngine (inputs : List MixInput) (e : MixEngine) : MixEngine :=
  { e with
    state := .computing
    inputs := inputs
    trimGain := trimGainOf e.trimStep
    accumulators := zeroAccumulators
    accSatCause := false
    outClipCause := false
    discard := false
    ready := none }

/-- The MIX content of the playback block that begins at a block event (R140, R141). -/
def mixContent (e : MixEngine) : Block :=
  match e.state with
  | .computing => zeroBlock
  | .idle => e.ready.getD zeroBlock

/-- The engine at a loss of lock (R144). -/
def lossEngine (e : MixEngine) : MixEngine :=
  { e with ready := none, discard := match e.state with | .computing => true | .idle => e.discard }

end Sys2Proof.Machine
end

