-- ==== Sys2Proof/Machine/Ops.lean ====
section
/-! DEFINITION. The operations over the whole state that several events share: reading and writing a
Peer Table entry, placing and discarding frames, channel access, and the changes of self state. -/

namespace Sys2Proof.Machine

/-! ## Peers -/

/-- The peer record at a number. -/
def peerAt (s : State) (k : Station) : Peer := s.peers[k]

/-- Replaces the peer record at a number. -/
def setPeer (k : Station) (p : Peer) (s : State) : State := { s with peers := s.peers.set k p }

/-- Changes the peer record at a number. -/
def updatePeer (k : Station) (f : Peer → Peer) (s : State) : State := setPeer k (f (peerAt s k)) s

/-- Changes every peer record. -/
def mapPeers (f : Peer → Peer) (s : State) : State := { s with peers := Vector.ofFn fun k => f s.peers[k] }

/-- The number of entries that are not FREE (R70). -/
def entriesInUse (peers : Vector Peer 8) : Nat := (peers.toList.filter fun p => p.entry.state != .free).length

/-- The number of ADMITTED entries (R166). -/
def admittedCount (peers : Vector Peer 8) : Nat := (peers.toList.filter fun p => p.entry.state == .admitted).length

/-- An entry that falls FREE at its silence limit; its pending conditions stay (R60, R63). -/
def freeEntry (e : Entry) : Entry :=
  { e with state := .free, cls := .near, unitId := none, admission := 0, silence := 0 }

/-- What FORGET leaves of a peer: a FREE entry with the values of R55, an IDLE queue, sums and
record 0 (R53, R71, R76). -/
def forgetPeer (p : Peer) : Peer := { flushPeer .idle p with entry := Entry.powerOn }

/-- Clears every refused mark (R70). -/
def clearRefused (s : State) : State :=
  mapPeers (fun p => { p with entry := { p.entry with refused := false } }) s

/-! ## Channel access (R31) -/

/-- The full gap in µs: 50 + 25 N, where a station with no number takes N = 8 (R31). -/
def gapLength (number : Option Station) : Nat :=
  match number with
  | some n => 50 + 25 * n.val
  | none => 250

/-- Entry to DEFER, and on to GAP with the full gap where CBSY is low (R31). -/
def enterDefer (s : State) : State :=
  if s.cbsy then { s with transmit := { s.transmit with state := .defer, gapTimer := none } }
  else { s with transmit := { s.transmit with state := .gap, gapTimer := some (gapLength s.control.number) } }

/-- A frame has been placed: an access starts where the transmit side is IDLE (R31). -/
def startAccess (s : State) : State :=
  match s.transmit.state with
  | .idle => enterDefer s
  | .off => s
  | .defer => s
  | .gap => s
  | .sending => s

/-- Either pending position holds a frame. -/
def framePending (s : State) : Bool := s.scheduler.audio.isSome || s.scheduler.announce.isSome

/-- The transmit side is waiting for the channel. -/
def accessing (t : TransmitState) : Bool :=
  match t with
  | .defer => true
  | .gap => true
  | .off => false
  | .idle => false
  | .sending => false

/-- An access is abandoned when both positions have become empty (R31, R34). -/
def abandonIfEmpty (s : State) : State :=
  if accessing s.transmit.state && !framePending s then
    { s with transmit := { s.transmit with state := .idle, gapTimer := none } }
  else s

/-! ## Pending positions (R25, R26, R29) -/

/-- The frame is a VOICE. -/
def isVoice (f : Option AudioFrame) : Bool :=
  match f with
  | some (.voice _ _ _) => true
  | some (.hold _ _) => false
  | none => false

/-- The audio position of a state that may send HOLD but no VOICE (R29, R38). -/
def withoutVoice (f : Option AudioFrame) : Option AudioFrame := if isVoice f then none else f

/-- A new audio frame takes the audio position; a VOICE it discards sets SUPERSEDED (R25). -/
def placeAudio (f : AudioFrame) (s : State) : State :=
  startAccess (setFlagIf (isVoice s.scheduler.audio) .superseded
    { s with scheduler := { s.scheduler with audio := some f } })

/-- A PRESENCE takes the announce position, whatever it holds (R26). -/
def placePresence (s : State) : State :=
  startAccess { s with scheduler := { s.scheduler with announce := some .presence } }

/-- An OFFER takes the announce position unless a PRESENCE is pending (R26). -/
def placeOffer (s : State) : State :=
  match s.scheduler.announce with
  | some .presence => s
  | some .offer => startAccess { s with scheduler := { s.scheduler with announce := some .offer } }
  | none => startAccess { s with scheduler := { s.scheduler with announce := some .offer } }

/-- A pending OFFER is discarded without a flag (R29). -/
def discardOffer (s : State) : State :=
  match s.scheduler.announce with
  | some .offer => abandonIfEmpty { s with scheduler := { s.scheduler with announce := none } }
  | some .presence => s
  | none => s

/-- Both positions are emptied without a flag, and an access is abandoned (R29, R34). -/
def emptyPositions (s : State) : State :=
  abandonIfEmpty { s with scheduler := { s.scheduler with audio := none, announce := none } }

/-- Both announce counts at 0 (R27, R28). -/
def zeroAnnounceCounts (s : State) : State :=
  { s with scheduler := { s.scheduler with presenceCount := 0, offerCount := 0 } }

/-! ## Changes of self state (chapter 3) -/

/-- Entry to ACTIVE with a number: counts from 0 and a PRESENCE placed (R42). -/
def enterActive (n : Station) (s : State) : State :=
  placePresence (zeroAnnounceCounts
    { s with control := { s.control with
        selfState := .active, number := some n, startTimer := none, clashWait := none, retryCount := none } })

/-- Entry to CLASHED: CLASH, the number kept, a PRESENCE placed, which takes the place of a pending
OFFER, the offer count 0, the clash wait from 0 (R43, R28). A pending VOICE is discarded without a flag
and a pending HOLD stays, by R29's general sentence and R38's table (DEDUCED, notes/assumptions/25.md:
R29's list and R43 name the OFFER alone). -/
def enterClashed (s : State) : State :=
  placePresence (setFlag .clash
    { s with
      control := { s.control with selfState := .clashed, clashWait := some 0 }
      scheduler := { s.scheduler with audio := withoutVoice s.scheduler.audio, offerCount := 0 } })

/-- Entry to LISTEN-ONLY: FULL, no number, both positions emptied, the retry count from 0, the
refused marks cleared (R47, R70). -/
def enterListenOnly (s : State) : State :=
  emptyPositions (zeroAnnounceCounts (clearRefused (setFlag .full
    { s with control := { s.control with
        selfState := .listenOnly, number := none, startTimer := none, clashWait := none, retryCount := some 0 } })))

/-- Entry to STARTING with a working tag: the start timer from 0 and no number (R39, R40). -/
def enterStarting (tag : Tag) (s : State) : State :=
  emptyPositions (zeroAnnounceCounts
    { s with control := { s.control with
        selfState := .starting, number := none, tag := tag
        startTimer := some 0, clashWait := none, retryCount := none } })

/-- A tag value is queued for the store; it replaces one that has not started (R175). -/
def queueTagWrite (v : Tag) (s : State) : State := { s with store := { s.store with writeQueue := some v } }

/-- A tag is created or adopted: the working tag at once, a store write queued, PAIRED, STARTING
(R50, R51). -/
def joinGroup (tag : Tag) (s : State) : State := enterStarting tag (setFlag .paired (queueTagWrite tag s))

/-- The pairing window closes: its timer stops, a pending OFFER is discarded, the offer count is 0
(R28, R49). -/
def closePairing (s : State) : State :=
  discardOffer
    { s with
      control := { s.control with window := none }
      scheduler := { s.scheduler with offerCount := 0 } }

/-- An entry counts as free for number choice: FREE with its refused mark clear (R41). -/
def freeForChoice (p : Peer) : Bool := p.entry.state == .free && !p.entry.refused

/-- Number choice: the preferred number if its entry is free, else the lowest free one (R41). -/
def numberChoice (s : State) : Option Station :=
  if freeForChoice (peerAt s s.settings.preferred) then some s.settings.preferred
  else (List.finRange 8).find? fun k => freeForChoice (peerAt s k)

/-- The number a clash move takes: the lowest whose entry is FREE and that is not the current one (R44). -/
def moveChoice (s : State) : Option Station :=
  (List.finRange 8).find? fun k => (peerAt s k).entry.state == .free && s.control.number != some k

/-- FORGET in all the blocks it reaches; a store write of 0 is queued where the tag was not 0 (R53). -/
def forget (s : State) : State :=
  let queued := if s.control.tag = 0 then s else queueTagWrite 0 s
  mapPeers forgetPeer (emptyPositions (zeroAnnounceCounts
    { queued with control := StationControl.powerOn s.control.unitId }))

/-- The low 16 bits of the unit identifier, or 1 if those are 0 (R50). -/
def createdTag (u : UnitId) : Tag := if u.extractLsb' 0 16 = 0 then 1 else u.extractLsb' 0 16

/-- A rising PAIR: the window opens or its timer restarts, and an UNPAIRED GATEWAY creates its tag
(R49, R50). -/
def openPairing (s : State) : State :=
  let opened : State := { s with control := { s.control with window := some 0 } }
  match s.control.selfState, s.settings.role with
  | .unpaired, .gateway => joinGroup (createdTag s.control.unitId) opened
  | _, _ => opened

end Sys2Proof.Machine
end

