-- ==== Sys2Proof/Machine/PeerTable.lean ====
section
/-! DEFINITION. The Peer Table (chapter 4): what an accepted frame does at its entry, migration, and
the silence counts. -/

namespace Sys2Proof.Machine

/-! ## An accepted frame at its entry (R56 to R58, R61, R62, R65, R66) -/

/-- A frame of the other class at an entry that is not FREE: the queue re-primed unless IDLE, the
record 0 (R65). -/
def classChange (c : AudioClass) (p : Peer) : Peer :=
  if p.entry.state ≠ .free ∧ p.entry.cls ≠ c then
    let flushed := flushIfActive p
    { flushed with entry := { p.entry with cls := c }, record := InputRecord.zero }
  else p

/-- A FREE entry made HEARD (R57). Leaving FREE clears the refused mark (R70). -/
def hearEntry (c : AudioClass) (e : Entry) : Entry :=
  { e with state := .heard, cls := c, unitId := none, admission := 1, silence := 0, refused := false }

/-- Liveness and state: the silence count 0 and the change the entry's state gives (R57, R58, R61,
R62). -/
def liveness (c : AudioClass) (p : Peer) : Peer :=
  match p.entry.state with
  | .free => { p with entry := hearEntry c p.entry }
  | .heard =>
    if 3 ≤ p.entry.admission + 1 then
      withConditions { Conditions.empty with admission := true }
        { flushPeer .priming p with entry := { p.entry with state := .admitted, admission := 3, silence := 0 } }
    else { p with entry := { p.entry with admission := p.entry.admission + 1, silence := 0 } }
  | .admitted => { p with entry := { p.entry with silence := 0 } }
  | .stale => { flushPeer .priming p with entry := { p.entry with state := .admitted, silence := 0 } }

/-- The identifier of an accepted PRESENCE is recorded (R66). -/
def recordIdentifier (f : AirFrame) (p : Peer) : Peer :=
  match f.kind with
  | .presence => { p with entry := { p.entry with unitId := some f.unitId } }
  | .voice => p
  | .hold => p
  | .offer => p

/-! ## Migration (R67 to R69) -/

/-- Entry `m` may take a moved record: it is FREE or HEARD (R67, R69). -/
def mayReceive (e : Entry) : Bool := e.state == .free || e.state == .heard

/-- The entries other than `m` that hold identifier `u`, by ascending number. -/
def holdersOf (peers : Vector Peer 8) (m : Station) (u : UnitId) : List Station :=
  (List.finRange 8).filter fun j => j != m && peers[j].entry.unitId == some u

/-- The one with the smallest silence count; among equals, the first in the list (R68). -/
def leastSilent (peers : Vector Peer 8) : List Station → Option Station
  | [] => none
  | j :: rest =>
    match leastSilent peers rest with
    | none => some j
    | some b => if peers[b].entry.silence < peers[j].entry.silence then some b else some j

/-- The source of the migration a PRESENCE with identifier `u` causes at entry `m` (R67, R68). -/
def migrationSource (peers : Vector Peer 8) (m : Station) (u : UnitId) : Option Station :=
  if peers[m].entry.unitId ≠ some u ∧ mayReceive peers[m].entry then leastSilent peers (holdersOf peers m u)
  else none

/-- The record of the source as entry `m` takes it: its pending conditions the union of both (R67). -/
def migratedTo (src dst : Peer) : Peer :=
  { src with entry := { src.entry with
      conditions := unionConditions dst.entry.conditions src.entry.conditions, refused := false } }

/-- What a migration leaves at its source: a FREE entry with nothing pending and an empty queue
(R67, R97; notes/assumptions/15.md). -/
def migratedFrom (src : Peer) : Peer :=
  { entry := { freeEntry src.entry with conditions := Conditions.empty }
    queue := Queue.powerOn, drift := DriftSums.zero, record := InputRecord.zero }

/-- The record of entry `j` moves to entry `m` whole (R67). -/
def migrate (j m : Station) (peers : Vector Peer 8) : Vector Peer 8 :=
  (peers.set m (migratedTo peers[j] peers[m])).set j (migratedFrom peers[j])

/-- Step 1 of R56: the migration test of a PRESENCE. -/
def migrationTest (f : AirFrame) (s : State) : State :=
  match f.kind with
  | .presence =>
    match migrationSource s.peers f.sender f.unitId with
    | some j => { s with peers := migrate j f.sender s.peers }
    | none => s
  | .voice => s
  | .hold => s
  | .offer => s

/-! ## The whole of what the table does with a frame (R56, R70, R18) -/

/-- The capacity limit: seven entries in use and a frame at a FREE one (R70). -/
def atCapacity (s : State) (m : Station) : Bool :=
  (peerAt s m).entry.state == .free && decide (7 ≤ entriesInUse s.peers)

/-- A frame refused at capacity: FULL and the entry's refused mark (R70). -/
def refuseFrame (m : Station) (s : State) : State :=
  setFlag .full (updatePeer m (fun p => { p with entry := { p.entry with refused := true } }) s)

/-- A VOICE frame's block, decoded and offered to the queue as the table has left it (R9, R18). -/
def offerVoice (g : Settings) (f : AirFrame) (p : Peer) : Peer :=
  match f.kind with
  | .voice => offerBlock g.targetDepth { seq := f.seq, samples := decodeBlock f.field.toNat f.mantissas } p
  | .hold => p
  | .presence => p
  | .offer => p

/-- Steps 2 to 4 of R56 at the entry, and the offer of a VOICE block (R18). -/
def acceptAtEntry (g : Settings) (f : AirFrame) (p : Peer) : Peer :=
  offerVoice g f (recordIdentifier f (liveness f.cls (classChange f.cls p)))

/-- An accepted frame at the entry of its sender number (R18, R56, R70). -/
def acceptFrame (f : AirFrame) (s : State) : State :=
  let moved := migrationTest f s
  if atCapacity moved f.sender then refuseFrame f.sender moved
  else updatePeer f.sender (acceptAtEntry s.settings f) moved

/-! ## Silence (R59 to R63) -/

/-- The silence limit of a state (R59). -/
def silenceLimit : EntryState → Option Nat
  | .free => none
  | .heard => some 64
  | .admitted => some 250
  | .stale => some 500

/-- An air tick brings the entry's silence count to its limit (R59). -/
def silenceDue (e : Entry) : Bool :=
  match silenceLimit e.state with
  | none => false
  | some limit => decide (limit ≤ e.silence + 1)

/-- The silence count raised by one (R59). -/
def oneMoreSilent (e : Entry) : Entry := { e with silence := e.silence + 1 }

/-- A HEARD entry at its limit becomes FREE; its queue stays IDLE (R60). -/
def heardTimesOut (p : Peer) : Peer := { p with entry := freeEntry p.entry }

/-- An ADMITTED entry at its limit becomes STALE: its queue to IDLE, its input out of the mix, the
silence count running on (R61). -/
def goesStale (p : Peer) : Peer :=
  { flushPeer .idle p with entry := { oneMoreSilent p.entry with state := .stale } }

/-- A STALE entry at its limit becomes FREE (R63). -/
def isLost (p : Peer) : Peer := { p with entry := freeEntry p.entry }

/-- The Peer Table's share of an air tick at one entry (R59 to R63). -/
def silenceTick (p : Peer) : Peer :=
  match p.entry.state with
  | .free => p
  | .heard => if silenceDue p.entry then heardTimesOut p else { p with entry := oneMoreSilent p.entry }
  | .admitted => if silenceDue p.entry then goesStale p else { p with entry := oneMoreSilent p.entry }
  | .stale => if silenceDue p.entry then isLost p else { p with entry := oneMoreSilent p.entry }

/-- The entry falls from STALE to FREE at this air tick (R63). -/
def lostAtTick (p : Peer) : Bool := p.entry.state == .stale && silenceDue p.entry

/-- The Peer Table's share of an air tick; PEER_LOST where a STALE entry falls FREE (R59, R63). -/
def tableTick (s : State) : State :=
  setFlagIf (s.peers.toList.any lostAtTick) .peerLost (mapPeers silenceTick s)

end Sys2Proof.Machine
end

