-- ==== Sys2Proof/Machine/Transmit.lean ====
section
/-! DEFINITION. The Transmit Scheduler's transmit events and announce counts (chapter 2), and the
events of channel access: CBSY_RISE, CBSY_FALL, GAP_EXPIRY, TRANSMISSION_END. -/

namespace Sys2Proof.Machine

/-! ## Transmit events (R22, R23, R30) -/

/-- The LAP is unlocked, as the Scheduler sees it. -/
def lapUnlocked (s : State) : Bool := s.lap.lock != .locked

/-- A VOICE frame of a block, encoded by the Block Coder (R8, R22). -/
def voiceOf (b : HeldBlock) : AudioFrame :=
  .voice b.seq (blockExponent b.samples) (encodeMantissas (blockExponent b.samples) b.samples)

/-- A HOLD frame carries the current counter value (R22). -/
def holdOf (s : State) (r : HoldReason) : AudioFrame := .hold s.scheduler.sequence r

/-- The held block is removed (R22). -/
def dropHeld (s : State) : State := { s with scheduler := { s.scheduler with held := none } }

/-- A PACED transmit event in ACTIVE: the first case that applies (R22). A block completed in CLASHED
and still held at the return to ACTIVE is sent by case 1 like any other: R21 leaves it held, and R30
says that the blocks completed in CLASHED are never sent (DESIGN CHOICE, notes/assumptions/26.md). -/
def pacedActive (s : State) : State :=
  match s.scheduler.held, muted s with
  | some b, false => placeAudio (voiceOf b) (dropHeld s)
  | _, true => placeAudio (holdOf s .muted) s
  | none, false =>
    if lapUnlocked s then placeAudio (holdOf s .lapLost) s
    else placeAudio (holdOf s .underrun) (setFlag .underrun s)

/-- A PACED transmit event in CLASHED: the first case that applies (R30). -/
def pacedClashed (s : State) : State :=
  match s.scheduler.held, muted s with
  | _, true => placeAudio (holdOf s .muted) s
  | some _, false => placeAudio (holdOf s .underrun) (dropHeld s)
  | none, false =>
    if lapUnlocked s then placeAudio (holdOf s .lapLost) s
    else placeAudio (holdOf s .underrun) (setFlag .underrun s)

/-- The transmit event of an air tick in PACED cadence (R22, R29, R30). -/
def pacedTransmit (s : State) : State :=
  match s.settings.cadence, s.control.selfState with
  | .onData, _ => s
  | .paced, .active => pacedActive s
  | .paced, .clashed => pacedClashed s
  | .paced, .unpaired => s
  | .paced, .starting => s
  | .paced, .listenOnly => s

/-- The transmit event of a block event in ON-DATA cadence, with the block just completed (R23, R30). -/
def onDataTransmit (b : HeldBlock) (s : State) : State :=
  match s.control.selfState, muted s with
  | .active, false => placeAudio (voiceOf b) s
  | .active, true => placeAudio (holdOf s .muted) s
  | .clashed, true => placeAudio (holdOf s .muted) s
  | .clashed, false => placeAudio (holdOf s .underrun) s
  | .unpaired, _ => s
  | .starting, _ => s
  | .listenOnly, _ => s

/-- In these self states the station sends (R29). -/
def sends (st : SelfState) : Bool :=
  match st with
  | .active => true
  | .clashed => true
  | .unpaired => false
  | .starting => false
  | .listenOnly => false

/-- The block just completed becomes the held block, or is not held while muted (R21). -/
def holdBlock (b : HeldBlock) (s : State) : State :=
  if muted s then dropHeld s
  else
    setFlagIf (s.scheduler.held.isSome && sends s.control.selfState) .superseded
      { s with scheduler := { s.scheduler with held := some b } }

/-- The capture hand-over: the counter advances, the block takes the new value, and the cadence
deals with it (R20, R21, R23). -/
def captureHandover (capture : Block) (s : State) : State :=
  let numbered : State := { s with scheduler := { s.scheduler with sequence := s.scheduler.sequence + 1 } }
  let b : HeldBlock := { seq := s.scheduler.sequence + 1, samples := capture }
  match s.settings.cadence with
  | .paced => holdBlock b numbered
  | .onData => onDataTransmit b numbered

/-! ## Announce counts (R27, R28) -/

/-- An air tick brings the presence count to 256 in ACTIVE or CLASHED (R27). -/
def presenceDue (s : State) : Bool := sends s.control.selfState && decide (256 ≤ s.scheduler.presenceCount + 1)

/-- The presence count has reached 256: it returns to 0 and a PRESENCE is placed (R27). -/
def presenceExpiry (s : State) : State :=
  placePresence { s with scheduler := { s.scheduler with presenceCount := 0 } }

/-- The presence count's share of an air tick (R27). -/
def presenceTick (s : State) : State :=
  if presenceDue s then presenceExpiry s
  else if sends s.control.selfState then
    { s with scheduler := { s.scheduler with presenceCount := s.scheduler.presenceCount + 1 } }
  else s

/-- The offer count runs in ACTIVE while the window is open (R28). -/
def offering (s : State) : Bool := s.control.selfState == .active && s.control.window.isSome

/-- An air tick brings the offer count to 32 (R28). -/
def offerDue (s : State) : Bool := offering s && decide (32 ≤ s.scheduler.offerCount + 1)

/-- The offer count has reached 32: it returns to 0 and an OFFER is placed by R26 (R28). -/
def offerExpiry (s : State) : State :=
  placeOffer { s with scheduler := { s.scheduler with offerCount := 0 } }

/-- The offer count's share of an air tick (R28). -/
def offerTick (s : State) : State :=
  if offerDue s then offerExpiry s
  else if offering s then { s with scheduler := { s.scheduler with offerCount := s.scheduler.offerCount + 1 } }
  else s

/-! ## Channel access events (R31 to R33) -/

/-- What the header takes at the rise of TXEN (R24). A station that sends holds a number. -/
def headerFill (s : State) : HeaderFill :=
  { cls := roleClass s.settings.role
    number := s.control.number.getD 0
    tag := s.control.tag
    sequence := s.scheduler.sequence
    unitId := s.control.unitId
    role := s.settings.role
    selfState := s.control.selfState }

/-- The frame with these bytes goes out: TXEN rises, the receive side is BLANKED and a frame in
assembly is abandoned (R13, R32). -/
def sendBytes (bytes : List Byte) (s : State) : State :=
  { s with
    transmit := { state := .sending, gapTimer := none, onAir := some bytes }
    receive := { s.receive with state := .blanked, bits := [] } }

/-- The frame chosen at the end of a gap leaves its position and is sent: the announcement, or else
the audio frame (R32). -/
def sendChosen (s : State) : State :=
  match s.scheduler.announce, s.scheduler.audio with
  | some a, _ =>
    sendBytes (announceFrameBytes (headerFill s) a) { s with scheduler := { s.scheduler with announce := none } }
  | none, some f =>
    sendBytes (audioFrameBytes (headerFill s) f) { s with scheduler := { s.scheduler with audio := none } }
  | none, none => { s with transmit := { s.transmit with state := .idle, gapTimer := none } }

/-- The receive side leaves BLANKED at the end of a transmission, for READY if RXV is low (R11). -/
def unblank (s : State) : State :=
  match s.receive.state, s.rxv with
  | .blanked, false => { s with receive := { s.receive with state := .ready } }
  | .blanked, true => s
  | .off, _ => s
  | .ready, _ => s
  | .receiving, _ => s

/-- CBSY_RISE: the line is high; in GAP the transmit side returns to DEFER and no part of the gap is
kept (R31). -/
def execCbsyRise (s : State) : Host.Outcome State Fault Refusal :=
  match s.transmit.state with
  | .gap => .next { s with cbsy := true, transmit := { s.transmit with state := .defer, gapTimer := none } }
  | .off => .next { s with cbsy := true }
  | .idle => .next { s with cbsy := true }
  | .defer => .next { s with cbsy := true }
  | .sending => .next { s with cbsy := true }

/-- CBSY_FALL: the line is low; in DEFER the whole gap is timed anew (R31). -/
def execCbsyFall (s : State) : Host.Outcome State Fault Refusal :=
  match s.transmit.state with
  | .defer => .next (enterDefer { s with cbsy := false })
  | .off => .next { s with cbsy := false }
  | .idle => .next { s with cbsy := false }
  | .gap => .next { s with cbsy := false }
  | .sending => .next { s with cbsy := false }

/-- GAP_EXPIRY: with CBSY low the frame is chosen and sent (R32). -/
def execGapExpiry (s : State) : Host.Outcome State Fault Refusal :=
  if s.transmit.state = .gap ∧ s.cbsy = false then .next (sendChosen s) else .next s

/-- TRANSMISSION_END: TXEN falls; DEFER if a frame is pending, else IDLE; the receive side leaves
BLANKED (R33, R11, R13). -/
def execTransmissionEnd (s : State) : Host.Outcome State Fault Refusal :=
  match s.transmit.state with
  | .sending =>
    let ended : State := unblank { s with transmit := { state := .idle, gapTimer := none, onAir := none } }
    .next (if framePending s then enterDefer ended else ended)
  | .off => .next s
  | .idle => .next s
  | .defer => .next s
  | .gap => .next s

end Sys2Proof.Machine
end

