-- ==== Sys2Proof/Machine/Control.lean ====
section
/-! DEFINITION. Station Control (chapter 3): its air-tick timers, the clash path, the pairing
hand-over, and AIR_TICK with the events that are one count's share of it. -/

namespace Sys2Proof.Machine

/-! ## Timers (R40, R46, R47, R49) -/

/-- A running timer one below its limit, or past it, expires at this air tick. -/
def timerDue (limit : Nat) (t : Option Nat) : Bool :=
  match t with
  | none => false
  | some n => decide (limit ≤ n + 1)

/-- A running timer raised by one; a stopped one stays stopped. -/
def timerTick (t : Option Nat) : Option Nat := t.map (· + 1)

/-- The listening period expires at this air tick (R40). -/
def listeningDue (s : State) : Bool := s.control.selfState == .starting && timerDue 64 s.control.startTimer

/-- The end of the listening period: a number and ACTIVE, or LISTEN-ONLY (R40, R41). -/
def listeningExpiry (s : State) : State :=
  match numberChoice s with
  | some n => enterActive n s
  | none => enterListenOnly s

/-- The clash wait expires at this air tick (R43, R46). -/
def clashWaitDue (s : State) : Bool := s.control.selfState == .clashed && timerDue 64 s.control.clashWait

/-- The end of the clash wait: the number is kept and the station enters ACTIVE (R46). -/
def clashWaitExpires (s : State) : State :=
  match s.control.number with
  | some n => enterActive n s
  | none => s

/-- A retry falls due at this air tick (R47). -/
def retryDue (s : State) : Bool := s.control.selfState == .listenOnly && timerDue 256 s.control.retryCount

/-- A retry: number choice, then the refused marks are cleared; without a number the station stays
in LISTEN-ONLY with the count at 0 (R47, R70; notes/assumptions/8.md). -/
def retryChoice (s : State) : State :=
  clearRefused
    (match numberChoice s with
     | some n => enterActive n s
     | none => { s with control := { s.control with retryCount := some 0 } })

/-- The window closes at this air tick (R49). -/
def windowDue (s : State) : Bool := timerDue 15000 s.control.window

/-- Station Control's own timer at an air tick, by the self state held before it (R29, R40, R43, R47). -/
def controlTick (s : State) : State :=
  match s.control.selfState with
  | .starting =>
    if listeningDue s then listeningExpiry s
    else { s with control := { s.control with startTimer := timerTick s.control.startTimer } }
  | .clashed =>
    if clashWaitDue s then clashWaitExpires s
    else { s with control := { s.control with clashWait := timerTick s.control.clashWait } }
  | .listenOnly =>
    if retryDue s then retryChoice s
    else { s with control := { s.control with retryCount := timerTick s.control.retryCount } }
  | .unpaired => s
  | .active => s

/-- The window timer at an air tick (R49). -/
def windowTick (s : State) : State :=
  if windowDue s then closePairing s
  else { s with control := { s.control with window := timerTick s.control.window } }

/-! ## The clash path (R43 to R45) -/

/-- A clash is settled against identifier `u` (R44). -/
def settleClash (u : UnitId) (s : State) : State :=
  if s.control.unitId < u then
    match s.control.number with
    | some n => enterActive n s
    | none => s
  else if u < s.control.unitId then
    match moveChoice s with
    | some n => enterActive n s
    | none => enterListenOnly s
  else s

/-- The frame is a PRESENCE that carries the station's own identifier (R37). -/
def ownPresence (f : AirFrame) (s : State) : Bool := f.kind == .presence && f.unitId == s.control.unitId

/-- A frame that carries the own number (R17, R43 to R45). -/
def clashPath (f : AirFrame) (s : State) : State :=
  match s.control.selfState with
  | .active => if ownPresence f s then s else enterClashed s
  | .clashed => if f.kind = .presence then settleClash f.unitId s else s
  | .unpaired => s
  | .starting => s
  | .listenOnly => s

/-! ## The pairing hand-over (R16, R51) -/

/-- An OFFER heard while UNPAIRED: adopted if the window is open, else left (R51). -/
def adoptOffer (f : AirFrame) (s : State) : State :=
  if s.control.window.isSome then joinGroup f.tag (closePairing s) else s

/-! ## Tag writes start at an air tick (R175) -/

/-- A queued value starts when the write state is IDLE (R175). -/
def tagWriteDue (s : State) : Bool := s.store.writeState == .idle && s.store.writeQueue.isSome

/-- The bytes of the write transaction: C3, address 24, the tag high byte first (R171, R176). -/
def tagWriteTransaction (v : Tag) : StoreTransaction :=
  { sent := [0xC3#8, 24#8, v.extractLsb' 8 8, v.extractLsb' 0 8], readBytes := 0 }

/-- The queued value becomes the value in progress and the write transaction begins (R175, R176). -/
def startTagWrite (s : State) : State :=
  match s.store.writeQueue with
  | some v =>
    { s with store :=
        { transaction := some (tagWriteTransaction v), writeQueue := none, inProgress := some v
          writeState := .writing } }
  | none => s

/-- The store unit's share of an air tick (R175). -/
def storeTick (s : State) : State := if tagWriteDue s then startTagWrite s else s

/-! ## The air tick (R172) -/

/-- A whole air tick, with the order of number choice and the table's timeouts given. The Scheduler
takes it first, in the self state held before it (R29). -/
def airTickInOrder (choiceFirst : Bool) (s : State) : State :=
  let scheduled := offerTick (presenceTick (pacedTransmit s))
  let changed := if choiceFirst then tableTick (controlTick scheduled) else controlTick (tableTick scheduled)
  storeTick (windowTick changed)

/-- A whole air tick; where a number choice and a timeout meet, the order is free (R59, R172;
notes/assumptions/7.md). -/
def airTick (s : State) : State :=
  airTickInOrder (Config.choiceBeforeTimeouts s.tickDraws) { s with tickDraws := s.tickDraws + 1 }

/-- AIR_TICK: air ticks run from the end of start-up (R172). -/
def execAirTick (s : State) : Host.Outcome State Fault Refusal :=
  match s.phase with
  | .running => .next (airTick s)
  | .held => .next s
  | .reading => .next s

/-- PRESENCE_COUNT_EXPIRY (R27; notes/assumptions/2.md). -/
def execPresenceCountExpiry (s : State) : Host.Outcome State Fault Refusal :=
  .next (if s.phase = .running ∧ presenceDue s then presenceExpiry s else s)

/-- OFFER_COUNT_EXPIRY (R28; notes/assumptions/2.md). -/
def execOfferCountExpiry (s : State) : Host.Outcome State Fault Refusal :=
  .next (if s.phase = .running ∧ offerDue s then offerExpiry s else s)

/-- LISTENING_PERIOD_EXPIRY (R40, R41; notes/assumptions/2.md). -/
def execListeningPeriodExpiry (s : State) : Host.Outcome State Fault Refusal :=
  .next (if s.phase = .running ∧ listeningDue s then listeningExpiry s else s)

/-- CLASH_WAIT_EXPIRY (R46; notes/assumptions/2.md). -/
def execClashWaitExpiry (s : State) : Host.Outcome State Fault Refusal :=
  .next (if s.phase = .running ∧ clashWaitDue s then clashWaitExpires s else s)

/-- LISTEN_ONLY_RETRY (R47, R70; notes/assumptions/2.md). -/
def execListenOnlyRetry (s : State) : Host.Outcome State Fault Refusal :=
  .next (if s.phase = .running ∧ retryDue s then retryChoice s else s)

/-- WINDOW_CLOSE (R49; notes/assumptions/2.md). -/
def execWindowClose (s : State) : Host.Outcome State Fault Refusal :=
  .next (if s.phase = .running ∧ windowDue s then closePairing s else s)

/-- HEARD_TIMEOUT at an entry (R60; notes/assumptions/2.md). -/
def execHeardTimeout (k : Station) (s : State) : Host.Outcome State Fault Refusal :=
  .next (if s.phase = .running ∧ (peerAt s k).entry.state = .heard ∧ silenceDue (peerAt s k).entry
    then updatePeer k heardTimesOut s else s)

/-- STALE at an entry (R61; notes/assumptions/2.md). -/
def execStale (k : Station) (s : State) : Host.Outcome State Fault Refusal :=
  .next (if s.phase = .running ∧ (peerAt s k).entry.state = .admitted ∧ silenceDue (peerAt s k).entry
    then updatePeer k goesStale s else s)

/-- PEER_LOST at an entry (R63; notes/assumptions/2.md). -/
def execPeerLost (k : Station) (s : State) : Host.Outcome State Fault Refusal :=
  .next (if s.phase = .running ∧ (peerAt s k).entry.state = .stale ∧ silenceDue (peerAt s k).entry
    then setFlag .peerLost (updatePeer k isLost s) else s)

/-- TAG_WRITE_START (R175; notes/assumptions/2.md). -/
def execTagWriteStart (s : State) : Host.Outcome State Fault Refusal :=
  .next (if s.phase = .running then storeTick s else s)

end Sys2Proof.Machine
end

