-- ==== Sys2Proof/Machine/Reception.lean ====
section
/-! DEFINITION. The receive side of the AFP: RECEPTION_START, BYTE_COMPLETE, BLANKED_RXV_FALL and
FRAME_ARRIVAL (R11 to R18). -/

namespace Sys2Proof.Machine

/-- RECEPTION_START: RXV rises. READY begins a reception; OFF and BLANKED ignore the input but for
the line's level (R11; notes/assumptions/5.md). -/
def execReceptionStart (s : State) : Host.Outcome State Fault Refusal :=
  match s.receive.state with
  | .ready =>
    .next { s with rxv := true, receive := { state := .receiving, buffer := [], byteCount := 0, crc := 0xFFFF#16, bits := [] } }
  | .off => .next { s with rxv := true }
  | .blanked => .next { s with rxv := true }
  | .receiving => .next s

/-- A whole byte into the receive side: kept below 71, fed to the check register, counted up to 255 (R11). -/
def receiveByte (b : Byte) (r : ReceiveSide) : ReceiveSide :=
  { r with
    buffer := if r.byteCount < 71 then r.buffer ++ [b] else r.buffer
    byteCount := min 255 (r.byteCount + 1)
    crc := crcByte r.crc b
    bits := [] }

/-- A bit sampled on RXD joins the byte in assembly; the eighth completes it, the first of the eight its
bit 7 (R1, R11). -/
def receiveBit (r : ReceiveSide) (d : Bool) : ReceiveSide :=
  let sampled := r.bits ++ [d]
  if sampled.length < 8 then { r with bits := sampled } else receiveByte (sampledByte sampled 0) r

/-- BYTE_COMPLETE: eight bits are sampled in RECEIVING, one after the other (R1, R11). -/
def execByteComplete (rxd : Vector Bool 8) (s : State) : Host.Outcome State Fault Refusal :=
  match s.receive.state with
  | .receiving => .next { s with receive := rxd.toList.foldl receiveBit s.receive }
  | .off => .next s
  | .ready => .next s
  | .blanked => .next s

/-- BLANKED_RXV_FALL: RXV falls outside a reception. BLANKED outside a transmission becomes READY
(R11, R13; notes/assumptions/5.md). -/
def execBlankedRxvFall (s : State) : Host.Outcome State Fault Refusal :=
  match s.receive.state with
  | .blanked =>
    if s.transmit.state = .sending then .next { s with rxv := false }
    else .next { s with rxv := false, receive := { s.receive with state := .ready } }
  | .off => .next { s with rxv := false }
  | .ready => .next { s with rxv := false }
  | .receiving => .next s

/-- Checks 3 and 4 and the dispatch of a frame that has passed its frame check and its form (R16 to R18). -/
def dispatchFrame (f : AirFrame) (s : State) : State :=
  match s.control.selfState with
  | .unpaired => if f.kind = .offer then adoptOffer f s else s
  | .starting | .active | .clashed | .listenOnly =>
    if f.tag ≠ s.control.tag then setFlag .foreign s
    else if s.control.number = some f.sender then clashPath f s
    else acceptFrame f s

/-- The acceptance checks in order, and the dispatch (R15). -/
def judgeFrame (s : State) : State :=
  if frameCheckPasses s.receive then
    match formCheck s.receive with
    | some f => dispatchFrame f s
    | none => setFlag .malformed s
  else setFlag .checkFail s

/-- FRAME_ARRIVAL: RXV falls in RECEIVING. With at least one whole byte the frame is judged; with
none the reception ends with nothing judged (R12). -/
def execFrameArrival (s : State) : Host.Outcome State Fault Refusal :=
  match s.receive.state with
  | .receiving =>
    let ended : State := { s with rxv := false, receive := { s.receive with state := .ready, bits := [] } }
    .next (if s.receive.byteCount = 0 then ended else judgeFrame ended)
  | .off => .next s
  | .ready => .next s
  | .blanked => .next s

end Sys2Proof.Machine
end

