-- ==== Sys2Proof/Machine/Status.lean ====
section
/-! DEFINITION. The status rotation and the layouts of the status words (R163 to R167). -/

namespace Sys2Proof.Machine

/-- The entry state code (R55). -/
def entryCode : EntryState → BitVec 2
  | .free => 0
  | .heard => 1
  | .admitted => 2
  | .stale => 3

/-- The queue state code (R75). -/
def queueCode : QueueState → BitVec 2
  | .idle => 0
  | .priming => 1
  | .playing => 2

/-- The own number as SELF shows it: 0 where there is none (R166). -/
def shownNumber (n : Option Station) : BitVec 3 :=
  match n with
  | some k => BitVec.ofNat 3 k.val
  | none => 0

/-- The SELF word (R164, R166). -/
def selfWord (s : State) : BitVec 16 :=
  0b0000#4 ++ (selfCode s.control.selfState).extractLsb' 0 3 ++ shownNumber s.control.number ++
    BitVec.ofBool s.control.window.isSome ++ BitVec.ofBool (muted s) ++
    BitVec.ofNat 3 (admittedCount s.peers) ++ BitVec.ofBool (s.settings.role == .gateway)

/-- The FLAGS-A word (R164). -/
def flagsAWord (s : State) : BitVec 16 :=
  0b0001#4 ++ BitVec.ofBool s.flags.checkFail ++ BitVec.ofBool s.flags.malformed ++
    BitVec.ofBool s.flags.foreign ++ BitVec.ofBool s.flags.superseded ++ BitVec.ofBool s.flags.underrun ++
    BitVec.ofBool s.flags.clash ++ BitVec.ofBool s.flags.full ++ BitVec.ofBool s.flags.paired ++
    BitVec.ofBool s.flags.storeFail ++ BitVec.ofBool s.flags.lapLost ++ BitVec.ofBool s.flags.peerLapse ++
    BitVec.ofBool s.flags.peerLost

/-- The FLAGS-B word (R164). -/
def flagsBWord (s : State) : BitVec 16 :=
  0b0010#4 ++ BitVec.ofBool s.flags.accSat ++ BitVec.ofBool s.flags.outClip ++
    BitVec.ofBool s.engine.lastAccSat ++ BitVec.ofBool s.engine.lastOutClip ++ 0#8

/-- The PEER word of entry `k`; LATE and DUPLICATE show as 0 where AHEAD is pending (R164, R167). -/
def peerWord (k : Station) (p : Peer) : BitVec 16 :=
  let c := p.entry.conditions
  BitVec.ofNat 4 (3 + k.val) ++ entryCode p.entry.state ++ queueCode p.queue.state ++ classBit p.entry.cls ++
    BitVec.ofBool (c.late && !c.ahead) ++ BitVec.ofBool (c.duplicate && !c.ahead) ++ BitVec.ofBool c.ahead ++
    BitVec.ofBool c.gap ++ BitVec.ofBool c.dry ++ BitVec.ofBool c.lapse ++ BitVec.ofBool c.admission

/-- The entry whose PEER word a scan index names: position 3 + k is PEER k (R163). -/
def scannedPeer (index : Nat) : Option Station :=
  if h : 3 ≤ index ∧ index - 3 < 8 then some ⟨index - 3, h.2⟩ else none

/-- The word at the scan index (R163). -/
def statusWord (s : State) : BitVec 16 :=
  match s.scanIndex with
  | 0 => selfWord s
  | 1 => flagsAWord s
  | 2 => flagsBWord s
  | n + 3 =>
    match scannedPeer (n + 3) with
    | some k => peerWord k (peerAt s k)
    | none => 0

/-- The scan index after the word at it has been chosen (R163). -/
def nextScanIndex (limit index : Nat) : Nat := if limit + 3 ≤ index then 0 else index + 1

/-- A peer with its pending conditions emptied (R167). -/
def emptyConditions (p : Peer) : Peer := { p with entry := { p.entry with conditions := Conditions.empty } }

/-- The choice of a word: a PEER word empties its entry's conditions, and the index advances (R163, R167). -/
def reportStatus (s : State) : State :=
  let reported :=
    match scannedPeer s.scanIndex with
    | some k => updatePeer k emptyConditions s
    | none => s
  { reported with scanIndex := nextScanIndex s.settings.scanLimit s.scanIndex }

end Sys2Proof.Machine
end

