-- ==== Sys2Proof/Machine/Port.lean ====
section
/-! DEFINITION. The Local Audio Port (chapter 9) and the events of the audio side: PORT_FRAME_END,
BLOCK_EVENT, QUEUE_LAPSE, DRIFT_WINDOW_CLOSE, COMPUTATION_COMPLETE, FRAME_MARK and MISSED_MARK. -/

namespace Sys2Proof.Machine

/-! ## The control word (R159 to R161) -/

/-- A field rises between the held word and a new one (R161). -/
def rises (field : BitVec 16 → Bool) (held new : BitVec 16) : Bool := field new && !field held

/-- A valid control word is taken: CLEAR, then FORGET, then PAIR where they rise; then it is the
held word and sets the trim step (R54, R159 to R161, R137). -/
def takeWord (w : BitVec 16) (s : State) : State :=
  let cleared := if rises wordClear s.lap.heldWord w then clearFlags s else s
  let forgotten := if rises wordForget s.lap.heldWord w then forget cleared else cleared
  let opened := if rises wordPair s.lap.heldWord w then openPairing forgotten else forgotten
  { opened with
    lap := { opened.lap with heldWord := w }
    engine := { opened.engine with trimStep := wordTrim w } }

/-- The word of the control slot is taken if it is valid, and ignored whole if not (R159). -/
def takeControl (w : Option (BitVec 16)) (s : State) : State :=
  match w with
  | none => s
  | some w => if wordValid w then takeWord w s else s

/-! ## The block event (R157) -/

/-- Every queue's take at a block event (R84). -/
def takeAll (s : State) : Vector Taken 8 :=
  Vector.ofFn fun k => { peer := takePeer s.settings s.peers[k], output := takeOutput s.peers[k].queue }

/-- A take of this block event lapses a queue (R91). -/
def anyLapse (s : State) : Bool := s.peers.toList.any fun p => lapseDue p.queue

/-- The takes and then the levels of every peer at a block event (R84, R115 to R125). -/
def takenAndLevelled (s : State) : Vector Taken 8 := levelPeers s.settings (takeAll s)

/-- The state after the takes and the levels; PEER_LAPSE where a take lapsed a queue (R84, R91, R125). -/
def afterTakes (s : State) : State :=
  setFlagIf (anyLapse s) .peerLapse
    { s with peers := Vector.ofFn fun k => (takenAndLevelled s)[k].peer, sidetone := levelSidetone s }

/-- The content of a lane in the playback block that begins at a block event (R142, R158). -/
def laneBlock (content : LaneContent) (mix capture : Block) (mute : Bool) (word : BitVec 16) : Block :=
  match content with
  | .mix => mix
  | .capture => if mute then zeroBlock else capture
  | .status => Vector.replicate 64 word
  | .zero => zeroBlock

/-- The playback block formed at a block event (R141, R143, R158). -/
def formPlayback (g : Settings) (mix capture : Block) (mute : Bool) (word : BitVec 16) : Playback :=
  { lane0 := laneBlock g.lane0Content mix capture mute word
    lane1 := laneBlock g.lane1Content mix capture mute word }

/-- The inputs handed to the Mix Engine at a block event: SIDETONE and the peers (R129). -/
def handedInputs (s levelled : State) (capture : Block) : List MixInput :=
  sidetoneInput levelled capture ++ peerInputs (takenAndLevelled s)

/-- The computation, the playback block and the status word of a block event whose control word and
capture block have been dealt with (R133, R141, R157, R163). -/
def mixAndReport (capture : Block) (s : State) : State :=
  let levelled := afterTakes s
  reportStatus
    { levelled with
      engine := beginEngine (handedInputs s levelled capture) levelled.engine
      lap := { levelled.lap with
        frameCounter := 0
        leadIn := false
        assembly := []
        playback := some (formPlayback s.settings (mixContent s.engine) capture (muted s) (statusWord levelled)) } }

/-- The capture block a block event completes (R151). -/
def completedCapture (adi : List Bool) (s : State) : Block :=
  captureBlock s.lap.assembly (captureSample s.settings adi)

/-- A whole block event (R157). -/
def blockEvent (adi : List Bool) (s : State) : State :=
  mixAndReport (completedCapture adi s)
    (captureHandover (completedCapture adi s) (takeControl (controlWord s.settings adi) s))

/-- The port stands in frame 63 of a block while LOCKED, so that a block event ends the frame; while
the port is unlocked there are no block events and no takes (R84, R98, R157). -/
abbrev BlockEnds (s : State) : Prop := s.lap.lock = .locked ∧ s.lap.frameCounter = 63

/-- BLOCK_EVENT: the end of port frame 63 while the port is LOCKED (R157). -/
def execBlockEvent (adi : List Bool) (s : State) : Host.Outcome State Fault Refusal :=
  if BlockEnds s then .next (blockEvent adi s) else .next s

/-- PORT_FRAME_END: the capture sample is appended and the frame counter advances (R151, R158). -/
def execPortFrameEnd (adi : List Bool) (s : State) : Host.Outcome State Fault Refusal :=
  if s.lap.lock = .locked ∧ s.lap.frameCounter < 63 then
    .next { s with lap := { s.lap with
      frameCounter := s.lap.frameCounter + 1
      assembly := s.lap.assembly ++ [captureSample s.settings adi] } }
  else .next s

/-! ## One queue's share of a block event -/

/-- The take that lapses a queue (R91). -/
def lapsePeer (p : Peer) : Peer :=
  match takeCursor p.queue with
  | none => p
  | some c => concealPeer c (depthSampled p)

/-- QUEUE_LAPSE at an entry, in the state in which its block event occurs (R91; notes/assumptions/2.md). -/
def execQueueLapse (k : Station) (s : State) : Host.Outcome State Fault Refusal :=
  .next (if BlockEnds s ∧ lapseDue (peerAt s k).queue then setFlag .peerLapse (updatePeer k lapsePeer s) else s)

/-- A take of the queue brings its depth count to L without lapsing the queue (R104). -/
def windowCloses (g : Settings) (p : Peer) : Bool :=
  (takeCursor p.queue).isSome && !lapseDue p.queue && decide (g.driftWindow ≤ p.drift.depthCount + 1)

/-- The Drift Tracker's share of that take: its sample, and the close (R103, R104). A count that
stands at L has its sample already. -/
def closeAtTake (g : Settings) (p : Peer) : Peer :=
  closeWindow g (if p.drift.depthCount < g.driftWindow then depthSampled p else p)

/-- DRIFT_WINDOW_CLOSE at an entry, in the state in which its block event occurs (R104;
notes/assumptions/2.md). -/
def execDriftWindowClose (k : Station) (s : State) : Host.Outcome State Fault Refusal :=
  .next (if BlockEnds s ∧ windowCloses s.settings (peerAt s k) then updatePeer k (closeAtTake s.settings) s else s)

/-! ## Completion of a computation (R139) -/

/-- COMPUTATION_COMPLETE: the flags of the causes, the last completed causes and the ready block (R139). -/
def execComputationComplete (s : State) : Host.Outcome State Fault Refusal :=
  match s.engine.state with
  | .computing =>
    .next (setFlagIf (computeAccSat s.engine) .accSat (setFlagIf (computeOutClip s.engine) .outClip
      { s with engine := completeEngine s.engine }))
  | .idle => .next s

/-! ## Lock (R152 to R156) -/

/-- The frame length P = S × W (R147). -/
def frameLength (g : Settings) : Nat := g.slotCount * g.slotWidth

/-- The port enters LOCKED: mark count 0, frame counter 0, the lead-in set, nothing in assembly
(R152, R153, R156). -/
def lockedLap (l : Lap) : Lap :=
  { l with lock := .locked, markCount := 0, frameCounter := 0, leadIn := true, assembly := [] }

/-- A SLAVE port locks: every PRIMING or PLAYING queue is flushed to PRIMING (R99, R156). -/
def lockPort (s : State) : State := mapPeers flushIfActive { s with lap := lockedLap s.lap }

/-- The LAP's fields after a loss of lock (R154, R155). -/
def unlockedLap (marks : Nat) (l : Lap) : Lap :=
  { l with lock := .unlocked, markCount := marks, frameCounter := 0, leadIn := false, assembly := [], playback := none }

/-- A loss of lock in all the blocks it reaches: LAP_LOST, SIDETONE out of the mix, the ready block
discarded and a computation in flight marked (R118, R144, R154, R155). -/
def loseLock (marks : Nat) (s : State) : State :=
  setFlag .lapLost
    { s with lap := unlockedLap marks s.lap, sidetone := InputRecord.zero, engine := lossEngine s.engine }

/-- A mark in UNLOCKED (R153). -/
def markUnlocked (spacing : Nat) (s : State) : State :=
  if s.lap.markCount = 0 then { s with lap := { s.lap with markCount := 1 } }
  else if spacing = frameLength s.settings then
    if 3 ≤ s.lap.markCount then lockPort s else { s with lap := { s.lap with markCount := s.lap.markCount + 1 } }
  else { s with lap := { s.lap with markCount := 1 } }

/-- A mark in LOCKED (R154). -/
def markLocked (spacing : Nat) (s : State) : State :=
  if spacing = frameLength s.settings then s else loseLock 1 s

/-- FRAME_MARK: marks are judged in SLAVE mode alone (R153, R154). -/
def execFrameMark (spacing : Nat) (s : State) : Host.Outcome State Fault Refusal :=
  match s.settings.clock, s.lap.lock with
  | .slave, .unlocked => .next (markUnlocked spacing s)
  | .slave, .locked => .next (markLocked spacing s)
  | .slave, .off => .next s
  | .master, _ => .next s

/-- MISSED_MARK: 125 µs after a mark without another (R153, R154). -/
def execMissedMark (s : State) : Host.Outcome State Fault Refusal :=
  match s.settings.clock, s.lap.lock with
  | .slave, .unlocked => .next { s with lap := { s.lap with markCount := 0 } }
  | .slave, .locked => .next (loseLock 0 s)
  | .slave, .off => .next s
  | .master, _ => .next s

end Sys2Proof.Machine
end

