-- ==== Sys2Proof/Machine/Store.lean ====
section
/-! DEFINITION. Reset, start-up and the settings store: RESETN_LOW, START_UP,
START_UP_READ_COMPLETE, WRITE_TRANSACTION_END, WRITE_TIME_END and WRITE_COMPLETION (R171 to R177). -/

namespace Sys2Proof.Machine

/-! ## The image (R173, R174) -/

/-- The marker is 6D (R173). -/
def imageValid (image : Image) : Bool := imageByte image 0 == 0x6D#8

/-- The role of byte 1 (R174). -/
def decodeRole (b : Byte) : Role := if b = 1 then .gateway else .bud

/-- The slot count of byte 3, bits 6 to 5 (R174). -/
def decodeSlotCount (code : BitVec 2) : Nat := if code = 0 then 2 else if code = 2 then 8 else 4

/-- The slot width of byte 3, bits 4 to 3 (R174). -/
def decodeSlotWidth (code : BitVec 2) : Nat := if code = 1 then 24 else if code = 2 then 32 else 16

/-- A lane content code (R142). -/
def decodeContent (code : BitVec 2) : LaneContent :=
  if code = 0 then .mix else if code = 1 then .capture else if code = 2 then .status else .zero

/-- The drift window of byte 11 (R102, R174). -/
def decodeWindow (b : Byte) : Nat :=
  if b = 0 then 64 else if b = 2 then 256 else if b = 3 then 512 else 128

/-- The scan limit of byte 20 (R174). -/
def decodeScanLimit (b : Byte) : Nat := if b = 1 then 1 else if b = 3 then 3 else 7

/-- A valid image decoded field by field (R174). -/
def decodeImage (image : Image) : Settings :=
  { role := decodeRole (imageByte image 1)
    preferred := ((imageByte image 2).extractLsb' 0 3).toFin
    clock := if (imageByte image 3).getLsbD 7 then .slave else .master
    slotCount := decodeSlotCount ((imageByte image 3).extractLsb' 5 2)
    slotWidth := decodeSlotWidth ((imageByte image 3).extractLsb' 3 2)
    markPosition := if (imageByte image 3).getLsbD 2 then .onBitZero else .early
    captureSlot := ((imageByte image 4).extractLsb' 0 3).toFin
    controlSlot := ((imageByte image 5).extractLsb' 0 3).toFin
    lane0Content := decodeContent ((imageByte image 6).extractLsb' 4 2)
    lane0Slot := ((imageByte image 6).extractLsb' 0 3).toFin
    lane1Content := decodeContent ((imageByte image 7).extractLsb' 4 2)
    lane1Slot := ((imageByte image 7).extractLsb' 0 3).toFin
    transmitMask := imageByte image 8
    cadence := if (imageByte image 9).getLsbD 0 then .onData else .paced
    targetDepth := max 2 (min 6 (imageByte image 10).toNat)
    driftWindow := decodeWindow (imageByte image 11)
    gateFloor := min 1023 (imageWord image 12).toNat
    farGain := min unityGain (imageWord image 14).toNat
    sidetoneGain := min unityGain (imageWord image 16).toNat
    nearGain := min unityGain (imageWord image 18).toNat
    scanLimit := decodeScanLimit (imageByte image 20)
    attnDrive := if (imageByte image 21).getLsbD 0 then .openDrain else .pushPull
    enables := flagsOfBits (imageWord image 22) }

/-- The settings an image gives: decoded where it is valid, else the defaults (R173). -/
def settingsOf (image : Image) : Settings :=
  if imageValid image then decodeImage image else Settings.default

/-- The group tag an image gives: bytes 24 and 25 where it is valid, else 0 (R173, R174). -/
def tagOf (image : Image) : Tag := if imageValid image then imageWord image 24 else 0

/-! ## Reset and start-up (R172) -/

/-- The start-up read: 3C, address 0, 32 data bytes (R171, R172). -/
def startUpTransaction : StoreTransaction := { sent := [0x3C#8, 0#8], readBytes := 32 }

/-- Every block in its power-on state. The unit identifier is kept, and RXV and CBSY are inputs
(R14, R36, R37, R39, R55, R74, R101, R114, R132, R146, R163, R168, R177). -/
def powerOn (s : State) : State :=
  { State.reset with
    control := StationControl.powerOn s.control.unitId
    rxv := s.rxv
    cbsy := s.cbsy
    tickDraws := s.tickDraws
    pending := s.pending }

/-- RESETN_LOW (R36, R177). -/
def execResetnLow (s : State) : Host.Outcome State Fault Refusal := .next (powerOn s)

/-- START_UP: RESETN rises and the start-up read begins at once (R172). -/
def execStartUp (s : State) : Host.Outcome State Fault Refusal :=
  match s.phase with
  | .held => .next { s with phase := .reading, store := { s.store with transaction := some startUpTransaction } }
  | .reading => .next s
  | .running => .next s

/-- The LAP leaves OFF: LOCKED in MASTER mode, UNLOCKED in SLAVE mode (R152, R153). -/
def startLap (clock : ClockSource) (l : Lap) : Lap :=
  match clock with
  | .master => lockedLap l
  | .slave => { l with lock := .unlocked, markCount := 0 }

/-- The end of start-up: the settings to their owners, and each block out of the power-on state it
has held throughout the read (R11, R31, R152, R153, R172). -/
def leavePowerOn (g : Settings) (s : State) : State :=
  { powerOn s with
    phase := .running
    settings := g
    receive := { ReceiveSide.powerOn with state := if s.rxv then .blanked else .ready }
    transmit := { TransmitSide.powerOn with state := .idle }
    lap := startLap g.clock Lap.powerOn }

/-- Station Control loads the stored tag: UNPAIRED for 0, STARTING for any other (R39). -/
def loadTag (tag : Tag) (s : State) : State := if tag = 0 then s else enterStarting tag s

/-- START_UP_READ_COMPLETE (R172 to R174). -/
def execStartUpReadComplete (smi : Vector Bool 256) (s : State) : Host.Outcome State Fault Refusal :=
  match s.phase with
  | .reading => .next (loadTag (tagOf (smiImage smi)) (leavePowerOn (settingsOf (smiImage smi)) s))
  | .held => .next s
  | .running => .next s

/-! ## Tag writes (R176) -/

/-- The read-back: 3C, address 24, two data bytes (R171, R176). -/
def readBackTransaction : StoreTransaction := { sent := [0x3C#8, 24#8], readBytes := 2 }

/-- WRITE_TRANSACTION_END: SSN rises and the write time begins (R176). -/
def execWriteTransactionEnd (s : State) : Host.Outcome State Fault Refusal :=
  match s.store.writeState with
  | .writing => .next { s with store := { s.store with transaction := none, writeState := .waiting } }
  | .idle => .next s
  | .waiting => .next s
  | .checking => .next s

/-- WRITE_TIME_END: the read-back begins (R176). -/
def execWriteTimeEnd (s : State) : Host.Outcome State Fault Refusal :=
  match s.store.writeState with
  | .waiting =>
    .next { s with store := { s.store with transaction := some readBackTransaction, writeState := .checking } }
  | .idle => .next s
  | .writing => .next s
  | .checking => .next s

/-- The tag that the read-back clocks in, high byte first (R171, R176). -/
def smiTag (first second : Vector Bool 8) : Tag := sampledByte first.toList 0 ++ sampledByte second.toList 0

/-- WRITE_COMPLETION: the bytes read are compared with the value in progress; STORE_FAIL where they
differ (R176). -/
def execWriteCompletion (first second : Vector Bool 8) (s : State) : Host.Outcome State Fault Refusal :=
  match s.store.writeState with
  | .checking =>
    .next (setFlagIf (s.store.inProgress != some (smiTag first second)) .storeFail
      { s with store := { s.store with transaction := none, inProgress := none, writeState := .idle } })
  | .idle => .next s
  | .writing => .next s
  | .waiting => .next s

end Sys2Proof.Machine
end

