-- ==== Sys2Proof/Machine/Pins.lean ====
section
/-! DEFINITION. The output pins, read from the state: TXEN and TXD (R1), SSN, SCK and SMO (R171), ATTN
(R170), ADO (R148, R150), AFRM and ABCK (R146, R147, R152). The state holds no time within a frame or
a transaction, so a pin that moves there is read at a bit clock or a half of a clock period. -/

namespace Sys2Proof.Machine

/-- The level of an output pin. -/
inductive PinLevel where | high | low | highZ
  deriving DecidableEq, Repr

/-- A driven level. -/
def driven (b : Bool) : PinLevel := if b then .high else .low

/-- TXEN is high for the length of a frame being sent. -/
def txen (s : State) : Bool := s.transmit.state == .sending

/-- The bits of a frame as TXD carries them: each byte most significant bit first (R1). -/
def txdBits (bytes : List Byte) : List Bool := bytes.flatMap bitsOfByte

/-- SSN is low while a transaction is under way (R171). -/
def ssn (s : State) : Bool := s.store.transaction.isNone

/-- The bits SMO carries in a transaction, low while the part reads (R171). -/
def smoBits (t : StoreTransaction) : List Bool := txdBits t.sent ++ List.replicate (8 * t.readBytes) false

/-- The halves of a period of ABCK or SCK, in order: from its falling edge, at which the part changes
its outputs, and from its rising edge, at which it samples its inputs (R147, R171). -/
inductive ClockHalf where | falling | rising
  deriving DecidableEq, Repr

/-- The level of a clock that the part drives in a half of its period. -/
def clockLevel (h : ClockHalf) : Bool := h == .rising

/-- SCK in a half of its period: it runs while a transaction is under way and is low between
transactions (R171). -/
def sck (s : State) (h : ClockHalf) : Bool := s.store.transaction.isSome && clockLevel h

/-- The SCK periods of a transaction: eight for each byte sent or read (R171, R172, R176). -/
def sckPeriods (t : StoreTransaction) : Nat := 8 * (t.sent.length + t.readBytes)

/-- ATTN (R170). -/
def attnPin (s : State) : PinLevel :=
  match s.phase, s.settings.attnDrive, attnAsserted s with
  | .held, _, _ => .highZ
  | .reading, _, _ => .highZ
  | .running, .pushPull, a => driven a
  | .running, .openDrain, true => .low
  | .running, .openDrain, false => .highZ

/-- The slot that bit clock `j` of a port frame belongs to (R147). -/
def slotOf (g : Settings) (j : Nat) : Nat := j / g.slotWidth

/-- The sample sent in a driven slot during port frame `i` of the block (R150). -/
def slotSampleOut (g : Settings) (b : Playback) (i slot : Nat) : Sample :=
  if g.lane0Slot.val = slot then b.lane0.toList.getD i 0
  else if g.lane1Slot.val = slot then b.lane1.toList.getD i 0
  else 0

/-- The bit of a sample sent at bit clock `j`: bit 15 first, 0 after the sixteenth (R148). -/
def slotBit (g : Settings) (x : Sample) (j : Nat) : Bool :=
  let n := j % g.slotWidth
  if n < 16 then x.getLsbD (15 - n) else false

/-- A bit clock of the port: bit clock `j` of the current port frame, or the extra one that a MASTER
port with EARLY position drives before its first port frame (R152). -/
inductive BitClock where
  | extra
  | ofFrame (j : Nat)
  deriving DecidableEq, Repr

/-- The extra bit clock comes before the current port frame: frame 0 of the lead-in of a MASTER port
with EARLY position, which is locked once, at start-up (R152). -/
def extraFirst (s : State) : Bool :=
  s.lap.lock == .locked && s.settings.clock == .master && s.settings.markPosition == .early &&
    s.lap.leadIn && s.lap.frameCounter == 0

/-- The bit clocks of the current port frame in order, the extra one first where it comes (R147, R152). -/
def bitClocks (s : State) : List BitClock :=
  (if extraFirst s then [.extra] else []) ++ (List.range (frameLength s.settings)).map .ofFrame

/-- ADO at a bit clock: high impedance in the extra one, in the lead-in and in a slot that is not driven
(R150, R152). -/
def adoPin (s : State) (c : BitClock) : PinLevel :=
  match c, s.lap.lock, s.lap.leadIn, s.lap.playback with
  | .ofFrame j, .locked, false, some b =>
    if j < frameLength s.settings ∧ s.settings.transmitMask.getLsbD (slotOf s.settings j) then
      driven (slotBit s.settings (slotSampleOut s.settings b s.lap.frameCounter (slotOf s.settings j)) j)
    else .highZ
  | _, _, _, _ => .highZ

/-- AFRM at a bit clock in MASTER mode, high for one bit clock at each mark: bit clock 0 with WITH
position; with EARLY position bit clock P - 1, and the extra one for the first mark (R147, R152). -/
def afrmBit (g : Settings) (c : BitClock) : Bool :=
  match g.markPosition, c with
  | .onBitZero, .ofFrame j => decide (j = 0)
  | .onBitZero, .extra => false
  | .early, .ofFrame j => decide (j + 1 = frameLength g)
  | .early, .extra => true

/-- The part drives ABCK and AFRM: in MASTER mode while LOCKED (R146, R152). -/
def drivesPort (s : State) : Bool := s.settings.clock == .master && s.lap.lock == .locked

/-- AFRM as the part drives it, else high impedance (R146, R152). -/
def afrmPin (s : State) (c : BitClock) : PinLevel :=
  if drivesPort s then driven (afrmBit s.settings c) else .highZ

/-- ABCK in a half of a bit clock as the part drives it, else high impedance; a bit clock begins at a
falling edge (R146, R147, R150, R152). -/
def abckPin (s : State) (h : ClockHalf) : PinLevel :=
  if drivesPort s then driven (clockLevel h) else .highZ

/-- Crystal periods per bit clock of ABCK in MASTER mode (R152). -/
def crystalPerBitClock (g : Settings) : Nat := 768 / frameLength g

end Sys2Proof.Machine
end

