-- ==== Sys2Proof/Machine/Dispatch.lean ====
section
/-! DEFINITION. One arm for each event. -/

namespace Sys2Proof.Machine

def exec (i : Instr) (s : State) : Host.Outcome State Fault Refusal :=
  match i with
  | .resetnLow => Sys2Proof.Machine.execResetnLow s
  | .startUp => Sys2Proof.Machine.execStartUp s
  | .startUpReadComplete smi => Sys2Proof.Machine.execStartUpReadComplete smi s
  | .receptionStart => Sys2Proof.Machine.execReceptionStart s
  | .blankedRxvFall => Sys2Proof.Machine.execBlankedRxvFall s
  | .frameArrival => Sys2Proof.Machine.execFrameArrival s
  | .airTick => Sys2Proof.Machine.execAirTick s
  | .presenceCountExpiry => Sys2Proof.Machine.execPresenceCountExpiry s
  | .offerCountExpiry => Sys2Proof.Machine.execOfferCountExpiry s
  | .listeningPeriodExpiry => Sys2Proof.Machine.execListeningPeriodExpiry s
  | .clashWaitExpiry => Sys2Proof.Machine.execClashWaitExpiry s
  | .listenOnlyRetry => Sys2Proof.Machine.execListenOnlyRetry s
  | .windowClose => Sys2Proof.Machine.execWindowClose s
  | .heardTimeout entry => Sys2Proof.Machine.execHeardTimeout entry s
  | .stale entry => Sys2Proof.Machine.execStale entry s
  | .peerLost entry => Sys2Proof.Machine.execPeerLost entry s
  | .cbsyRise => Sys2Proof.Machine.execCbsyRise s
  | .cbsyFall => Sys2Proof.Machine.execCbsyFall s
  | .gapExpiry => Sys2Proof.Machine.execGapExpiry s
  | .transmissionEnd => Sys2Proof.Machine.execTransmissionEnd s
  | .blockEvent adi => Sys2Proof.Machine.execBlockEvent adi s
  | .queueLapse entry => Sys2Proof.Machine.execQueueLapse entry s
  | .driftWindowClose entry => Sys2Proof.Machine.execDriftWindowClose entry s
  | .computationComplete => Sys2Proof.Machine.execComputationComplete s
  | .frameMark spacing => Sys2Proof.Machine.execFrameMark spacing s
  | .missedMark => Sys2Proof.Machine.execMissedMark s
  | .tagWriteStart => Sys2Proof.Machine.execTagWriteStart s
  | .writeTransactionEnd => Sys2Proof.Machine.execWriteTransactionEnd s
  | .writeTimeEnd => Sys2Proof.Machine.execWriteTimeEnd s
  | .writeCompletion first second => Sys2Proof.Machine.execWriteCompletion first second s
  | .byteComplete rxd => Sys2Proof.Machine.execByteComplete rxd s
  | .portFrameEnd adi => Sys2Proof.Machine.execPortFrameEnd adi s

end Sys2Proof.Machine
end

