-- ==== Sys2Proof/Safety.lean ====
section
/-! DEFINITION. What the claims count as a sound state: for each block, what the rules say of its
state at every moment between events. Each is kept by every step on its own. -/

namespace Sys2Proof.Machine

/-- An event goes on: it neither faults nor is refused. -/
def Completes (o : Host.Outcome State Fault Refusal) : Prop := ∃ t, o = .next t

/-- Station Control and what the Scheduler may hold for it: R38's table of tag, number and timers,
the pending positions of R29 (no VOICE in CLASHED is notes/assumptions/25.md), and the counts of R27 and
R28. -/
abbrev StationSound (s : State) : Prop :=
  (s.control.selfState = .unpaired ↔ s.control.tag = 0) ∧
  s.control.number.isSome = sends s.control.selfState ∧
  (s.control.startTimer.isSome ↔ s.control.selfState = .starting) ∧
  (s.control.clashWait.isSome ↔ s.control.selfState = .clashed) ∧
  (s.control.retryCount.isSome ↔ s.control.selfState = .listenOnly) ∧
  (sends s.control.selfState = false →
    s.scheduler.audio = none ∧ s.scheduler.announce = none ∧ s.scheduler.presenceCount = 0) ∧
  (offering s = false → s.scheduler.offerCount = 0 ∧ s.scheduler.announce ≠ some .offer) ∧
  (s.control.selfState = .clashed → isVoice s.scheduler.audio = false) ∧
  s.scheduler.presenceCount ≤ 255 ∧ s.scheduler.offerCount ≤ 31

/-- The timers of Station Control stand below their limits (R40, R43, R47, R49). -/
abbrev TimersSound (s : State) : Prop :=
  (∀ n ∈ s.control.startTimer, n < 64) ∧ (∀ n ∈ s.control.clashWait, n < 64) ∧
  (∀ n ∈ s.control.retryCount, n < 256) ∧ (∀ n ∈ s.control.window, n < 15000)

/-- An entry's fields against its state (R55, R57 to R63, R70). -/
abbrev EntrySound (e : Entry) : Prop :=
  (e.state = .free → e.cls = .near ∧ e.unitId = none ∧ e.admission = 0 ∧ e.silence = 0) ∧
  (e.state = .heard → 1 ≤ e.admission ∧ e.admission ≤ 2 ∧ e.silence < 64) ∧
  (e.state = .admitted → e.admission = 3 ∧ e.silence < 250) ∧
  (e.state = .stale → e.admission = 3 ∧ 250 ≤ e.silence ∧ e.silence < 500) ∧
  (e.refused = true → e.state = .free)

/-- Every entry of the table is sound. -/
abbrev EntriesSound (s : State) : Prop := ∀ k : Station, EntrySound (peerAt s k).entry

/-- At most seven entries are not FREE, and the own number's entry is FREE (R70). -/
abbrev TableSound (s : State) : Prop :=
  entriesInUse s.peers ≤ 7 ∧ ∀ k : Station, s.control.number = some k → (peerAt s k).entry.state = .free

/-- A queue against its state and its entry: R75's table, the window of R80, the count of R91, and
nothing pending or summed outside PLAYING (R107). -/
abbrev QueueSound (depth : Nat) (p : Peer) : Prop :=
  (p.entry.state = .admitted ↔ p.queue.state ≠ .idle) ∧
  (p.queue.state = .idle → p.queue.slots = [] ∧ p.queue.start = none) ∧
  (p.queue.state = .priming → p.queue.slots.length < depth ∧ (p.queue.start = none ↔ p.queue.slots = [])) ∧
  (p.queue.state = .playing → p.queue.cursor.isSome ∧ p.queue.start = p.queue.cursor.map Cursor.block) ∧
  (p.queue.state ≠ .playing →
    p.queue.cursor = none ∧ p.queue.concealed = 0 ∧ p.queue.correction = none ∧ p.drift = DriftSums.zero) ∧
  p.queue.concealed ≤ 24 ∧
  p.queue.slots.length ≤ 8 ∧
  (p.queue.slots.map Slot.seq).Nodup ∧
  (∀ x ∈ p.queue.slots, ∀ w ∈ p.queue.start, (x.seq - w).toNat ≤ 7)

/-- Every queue is sound, with D at least 2 and L above 0 as R174 decodes them. -/
abbrev QueuesSound (s : State) : Prop :=
  2 ≤ s.settings.targetDepth ∧ 0 < s.settings.driftWindow ∧
  ∀ k : Station, QueueSound s.settings.targetDepth (peerAt s k)

/-- The slots stand in sequence order from window start `w` (R80). -/
abbrev InSequence (w : Seq) (slots : List Slot) : Prop :=
  slots.Pairwise fun a b => (a.seq - w).toNat < (b.seq - w).toNat

/-- Every queue holds its slots in sequence order from W (R80). -/
abbrev SlotsInSequence (s : State) : Prop :=
  QueuesSound s ∧ ∀ k : Station, ∀ w ∈ (peerAt s k).queue.start, InSequence w (peerAt s k).queue.slots

/-- The drift sums of every queue stay within their ranges (R101), for queues of at most 8 slots. -/
abbrev DriftSound (s : State) : Prop :=
  QueuesSound s ∧ ∀ k : Station,
    (peerAt s k).drift.depthCount < s.settings.driftWindow ∧
    (peerAt s k).drift.depthSum ≤ 8 * (peerAt s k).drift.depthCount

/-- A record's numbers lie in their ranges (R114). -/
abbrev RecordSound (r : InputRecord) : Prop :=
  r.blockLevel ≤ 32767 ∧ r.smoothed ≤ 32767 ∧ r.target ≤ 32768 ∧ r.applied ≤ 32768

/-- Every record lies in its ranges, and the record of an input that is not in the mix is 0: SIDETONE
while the LAP is not locked, while the held word mutes and in a GATEWAY, a peer while its queue is not
PLAYING (R114, R116 to R118). -/
abbrev LevelsSound (s : State) : Prop :=
  s.settings.farGain ≤ 32768 ∧ s.settings.sidetoneGain ≤ 32768 ∧ s.settings.nearGain ≤ 32768 ∧
  RecordSound s.sidetone ∧
  (s.lap.lock ≠ .locked ∨ wordMute s.lap.heldWord = true ∨ s.settings.role = .gateway →
    s.sidetone = InputRecord.zero) ∧
  ∀ k : Station, RecordSound (peerAt s k).record ∧
    ((peerAt s k).queue.state ≠ .playing → (peerAt s k).record = InputRecord.zero)

/-- The two sides of the AFP against the lines they read and the pending positions, with no bits in
assembly between events (R11, R13, R31; the eight bits of a byte come in one event, notes/assumptions/13.md). -/
abbrev LinkSound (s : State) : Prop :=
  (s.receive.state = .ready → s.rxv = false) ∧ (s.receive.state = .receiving → s.rxv = true) ∧
  s.receive.bits = [] ∧ s.receive.byteCount ≤ 255 ∧ s.receive.buffer.length = min 71 s.receive.byteCount ∧
  (s.transmit.state = .sending → s.receive.state = .blanked) ∧
  (s.receive.state = .off ↔ s.transmit.state = .off) ∧
  (s.transmit.onAir.isSome ↔ s.transmit.state = .sending) ∧
  (s.transmit.gapTimer.isSome ↔ s.transmit.state = .gap) ∧
  (accessing s.transmit.state = true → framePending s = true) ∧
  (s.transmit.state = .idle → framePending s = false) ∧
  (s.transmit.state = .gap → s.cbsy = false) ∧ (s.transmit.state = .defer → s.cbsy = true)

/-- The LAP's fields against its lock state, what a loss of lock leaves of the engine, and the trim
step against the held word (R144, R146, R155, R158, R160). -/
abbrev PortSound (s : State) : Prop :=
  s.lap.frameCounter ≤ 63 ∧ s.lap.assembly.length = s.lap.frameCounter ∧ s.lap.markCount ≤ 3 ∧
  (s.lap.lock ≠ .locked → s.lap.frameCounter = 0 ∧ s.lap.leadIn = false ∧ s.lap.playback = none) ∧
  (s.lap.lock ≠ .unlocked → s.lap.markCount = 0) ∧
  (s.lap.leadIn = true → s.lap.playback = none) ∧
  (s.lap.lock ≠ .locked → s.engine.ready = none) ∧
  (s.lap.lock ≠ .locked → s.engine.state = .computing → s.engine.discard = true) ∧
  s.engine.trimStep = wordTrim s.lap.heldWord

/-- A tag write's fields against its phase (R171, R175, R176). -/
abbrev StoreSound (s : State) : Prop :=
  (s.store.inProgress.isSome ↔ s.store.writeState ≠ .idle) ∧
  (s.phase ≠ .reading → s.store.transaction =
    match s.store.writeState with
    | .writing => s.store.inProgress.map tagWriteTransaction
    | .checking => some readBackTransaction
    | .idle => none
    | .waiting => none)

/-- The scan index names a word of the rotation (R163). -/
abbrev ScanSound (s : State) : Prop :=
  s.settings.scanLimit ∈ [1, 3, 7] ∧ s.scanIndex ≤ s.settings.scanLimit + 3

/-! ## Words for claims about arrivals, runs of events, and power-on -/

/-- The state a reception's end leaves before its frame is judged (R12). -/
def endReception (s : State) : State :=
  { s with rxv := false, receive := { s.receive with state := .ready, bits := [] } }

/-- A reception stands to end as a frame `f` that passes checks 1 and 2 (R15). -/
abbrev ArrivesAs (f : AirFrame) (s : State) : Prop :=
  s.receive.state = .receiving ∧ s.receive.byteCount ≠ 0 ∧ frameCheckPasses s.receive = true ∧
  formCheck s.receive = some f

/-- A frame that would pass all four checks at a paired station (R16 to R18). -/
abbrev ArrivesAccepted (f : AirFrame) (s : State) : Prop :=
  ArrivesAs f s ∧ s.control.selfState ≠ .unpaired ∧ f.tag = s.control.tag ∧ s.control.number ≠ some f.sender

/-- A frame that would take the clash path of a station in ACTIVE or CLASHED (R17). -/
abbrev ArrivesOnClashPath (f : AirFrame) (s : State) : Prop :=
  ArrivesAs f s ∧ s.control.selfState ≠ .unpaired ∧ f.tag = s.control.tag ∧ s.control.number = some f.sender

/-- The receive side after a reception of these whole bytes (R11). -/
def received (bytes : List Byte) : ReceiveSide :=
  bytes.foldl (fun r b => receiveByte b r)
    { state := .receiving, buffer := [], byteCount := 0, crc := 0xFFFF#16, bits := [] }

/-- The bits sampled on SMI carry the image: its bytes in order, each bit 7 first (R171). -/
abbrev Carries (image : Image) (smi : Vector Bool 256) : Prop :=
  ∀ (i : Fin 32) (j : Fin 8), smi.toList.getD (8 * i.val + j.val) false = image[i].getLsbD (7 - j.val)

/-- The two events that put the blocks at their power-on values (R36, R172). -/
abbrev PowersOn (c : Instr) : Prop := c = .resetnLow ∨ ∃ smi : Vector Bool 256, c = .startUpReadComplete smi

/-- The event is a BLOCK_EVENT with these bits on ADI, and it occurs in this state (R157). -/
abbrev BlockEventWith (adi : List Bool) (c : Instr) (s : State) : Prop :=
  c = .blockEvent adi ∧ s.lap.lock = .locked ∧ s.lap.frameCounter = 63

/-- The event takes this valid control word (R159). -/
abbrev TakesWord (w : BitVec 16) (c : Instr) (s : State) : Prop :=
  ∃ adi : List Bool, BlockEventWith adi c s ∧ controlWord s.settings adi = some w ∧ wordValid w = true

/-- The transmit side once a frame has been placed: IDLE starts an access, DEFER while CBSY is high, else
GAP with the full gap 50 + 25 N, and any other state goes on as it was; a station that holds no number
takes N = 8 (R25, R31; no gap timer outside GAP is notes/assumptions/14.md). -/
def accessBegun (cbsy : Bool) (number : Option Station) (t : TransmitSide) : TransmitSide :=
  if t.state = .idle then
    if cbsy then { t with state := .defer, gapTimer := none }
    else { t with state := .gap, gapTimer := some (50 + 25 * match number with | some n => n.val | none => 8) }
  else t

/-- The transmit side once both positions have been emptied: an access is abandoned, and a frame on the
air goes on (R29, R31, R34). -/
def accessAbandoned (t : TransmitSide) : TransmitSide :=
  if t.state = .defer ∨ t.state = .gap then { t with state := .idle, gapTimer := none } else t

/-! ## What each event reaches -/

/-- The parts of the state that the spec gives the blocks. -/
inductive Part where
  | phase | settings | rxv | cbsy | receive | transmit | scheduler | control | peers | sidetone
  | engine | lap | flags | scanIndex | store
  deriving DecidableEq, Repr

/-- The parts an event can change: the blocks that its rules name. -/
def reaches : Instr → List Part
  | .resetnLow =>
    [.phase, .settings, .receive, .transmit, .scheduler, .control, .peers, .sidetone, .engine, .lap, .flags,
      .scanIndex, .store]
  | .startUp => [.phase, .store]
  | .startUpReadComplete _ =>
    [.phase, .settings, .receive, .transmit, .scheduler, .control, .peers, .sidetone, .engine, .lap, .flags,
      .scanIndex, .store]
  | .receptionStart => [.rxv, .receive]
  | .blankedRxvFall => [.rxv, .receive]
  | .byteComplete _ => [.receive]
  | .frameArrival => [.rxv, .receive, .transmit, .scheduler, .control, .peers, .flags, .store]
  | .airTick => [.transmit, .scheduler, .control, .peers, .flags, .store]
  | .presenceCountExpiry => [.transmit, .scheduler]
  | .offerCountExpiry => [.transmit, .scheduler]
  | .listeningPeriodExpiry => [.transmit, .scheduler, .control, .peers, .flags]
  | .clashWaitExpiry => [.transmit, .scheduler, .control]
  | .listenOnlyRetry => [.transmit, .scheduler, .control, .peers]
  | .windowClose => [.transmit, .scheduler, .control]
  | .heardTimeout _ => [.peers]
  | .stale _ => [.peers]
  | .peerLost _ => [.peers, .flags]
  | .cbsyRise => [.cbsy, .transmit]
  | .cbsyFall => [.cbsy, .transmit]
  | .gapExpiry => [.receive, .transmit, .scheduler]
  | .transmissionEnd => [.receive, .transmit]
  | .blockEvent _ =>
    [.transmit, .scheduler, .control, .peers, .sidetone, .engine, .lap, .flags, .scanIndex, .store]
  | .queueLapse _ => [.peers, .flags]
  | .driftWindowClose _ => [.peers]
  | .computationComplete => [.engine, .flags]
  | .frameMark _ => [.peers, .sidetone, .engine, .lap, .flags]
  | .missedMark => [.sidetone, .engine, .lap, .flags]
  | .tagWriteStart => [.store]
  | .writeTransactionEnd => [.store]
  | .writeTimeEnd => [.store]
  | .writeCompletion _ _ => [.flags, .store]
  | .portFrameEnd _ => [.lap]

/-! ## The Peer Table's rules as one table -/

/-- A queue flushed to PRIMING with W unset (R76). -/
def primed (q : Queue) : Queue :=
  { state := .priming, slots := [], start := none, cursor := none, concealed := 0
    lastGood := q.lastGood, correction := none }

/-- An entry whose class has become the frame's: an input of the other class starts again (R65). -/
def afterClass (c : AudioClass) (p : Peer) : Peer :=
  if p.entry.cls = c then p
  else
    { entry := { p.entry with cls := c }
      queue := if p.queue.state = .idle then p.queue else primed p.queue
      drift := if p.queue.state = .idle then p.drift else { depthSum := 0, depthCount := 0 }
      record := { blockLevel := 0, smoothed := 0, target := 0, applied := 0 } }

/-- An entry ADMITTED with its queue primed: by its third frame, which adds ADMIT, or from STALE (R58, R62). -/
def admittedWith (third : Bool) (p : Peer) : Peer :=
  { entry := { p.entry with
      state := .admitted, silence := 0, admission := if third then 3 else p.entry.admission
      conditions := { p.entry.conditions with admission := p.entry.conditions.admission || third } }
    queue := primed p.queue
    drift := { depthSum := 0, depthCount := 0 }
    record := { blockLevel := 0, smoothed := 0, target := 0, applied := 0 } }

/-- The entry after a frame's class and liveness (R56 to R58, R61, R62). -/
def afterLiveness (c : AudioClass) (p : Peer) : Peer :=
  match p.entry.state with
  | .free =>
    { p with entry := { p.entry with
        state := .heard, cls := c, unitId := none, admission := 1, silence := 0, refused := false } }
  | .heard =>
    let q := afterClass c p
    if p.entry.admission < 2 then
      { q with entry := { q.entry with admission := p.entry.admission + 1, silence := 0 } }
    else admittedWith true q
  | .admitted =>
    let q := afterClass c p
    { q with entry := { q.entry with silence := 0 } }
  | .stale => admittedWith false (afterClass c p)

/-- The entry after the whole of an accepted frame: a PRESENCE records its identifier (R66), a VOICE
offers its decoded block to the queue (R9, R18). -/
def entryAfter (depth : Nat) (f : AirFrame) (p : Peer) : Peer :=
  match f.kind with
  | .hold => afterLiveness f.cls p
  | .offer => afterLiveness f.cls p
  | .presence =>
    { afterLiveness f.cls p with entry := { (afterLiveness f.cls p).entry with unitId := some f.unitId } }
  | .voice =>
    offerBlock depth
      { seq := f.seq
        samples := Vector.ofFn fun n => BitVec.ofInt 16 (f.mantissas[n].toInt * 2 ^ f.field.toNat) }
      (afterLiveness f.cls p)

/-- The identifier of a PRESENCE is held by no entry that the frame's entry could take it from (R67, R69). -/
abbrev MovesNoRecord (f : AirFrame) (s : State) : Prop :=
  f.kind ≠ .presence ∨ (peerAt s f.sender).entry.unitId = some f.unitId ∨
  (peerAt s f.sender).entry.state = .admitted ∨ (peerAt s f.sender).entry.state = .stale ∨
  ∀ j : Station, j ≠ f.sender → (peerAt s j).entry.unitId ≠ some f.unitId

/-- Entry `j` is the source of the migration that a PRESENCE causes: of the others that hold its
identifier the least silent, and among equals the lowest (R67, R68). -/
abbrev MovesRecordFrom (j : Station) (f : AirFrame) (s : State) : Prop :=
  f.kind = .presence ∧
  ((peerAt s f.sender).entry.state = .free ∨ (peerAt s f.sender).entry.state = .heard) ∧
  (peerAt s f.sender).entry.unitId ≠ some f.unitId ∧
  j ≠ f.sender ∧ (peerAt s j).entry.unitId = some f.unitId ∧
  ∀ i : Station, i ≠ f.sender → (peerAt s i).entry.unitId = some f.unitId →
    (peerAt s j).entry.silence < (peerAt s i).entry.silence ∨
    ((peerAt s j).entry.silence = (peerAt s i).entry.silence ∧ j ≤ i)

end Sys2Proof.Machine
end

