-- ==== Sys2Proof/Certificates/Slice0/Obligations.lean ====
section
/-! DEFINITION. The statements for the provers. Each says which rules of spec/ it formalises; where a
clause rests on a choice of the model, the docstring names the log entry. -/

open Sys2Proof Sys2Proof.Machine

/-! ## The queue of events -/

/-- A step takes the event at the front of the queue and runs it with the queue's rest; on an empty
queue the block idles (the model's choice, notes/assumptions/3.md and 20.md). -/
def Obligations.StepTakesFrontEvent : Prop :=
  (∀ (c : Instr) (rest : List Instr) (s : State),
    step { s with pending := c :: rest } = exec c { s with pending := rest }) ∧
  ∀ s : State, s.pending = [] → step s = .next s

/-- No event stops the part, and none puts an event into the queue: the spec gives no stop, and an
event that cannot occur changes nothing (notes/assumptions/1.md). -/
def Obligations.NoEventStopsThePart : Prop :=
  ∀ (c : Instr) (s : State), ∃ t : State, exec c s = .next t ∧ t.pending = s.pending

/-- An event given in a state in which it cannot occur leaves the state as it is: one of another phase or
another state of its block, an expiry whose count is stopped or stands below the value before its limit,
and a share of a block event while the port is unlocked or not in frame 63 (the model's choice,
notes/assumptions/1.md; the rows as shares of an air tick or a block event are notes/assumptions/2.md). -/
def Obligations.EventsThatCannotOccurChangeNothing : Prop :=
  ∀ s : State,
    (s.phase ≠ .held → exec .startUp s = .next s) ∧
    (s.phase ≠ .reading → ∀ smi : Vector Bool 256, exec (.startUpReadComplete smi) s = .next s) ∧
    (s.phase ≠ .running →
      exec .airTick s = .next s ∧ exec .presenceCountExpiry s = .next s ∧ exec .offerCountExpiry s = .next s ∧
      exec .listeningPeriodExpiry s = .next s ∧ exec .clashWaitExpiry s = .next s ∧
      exec .listenOnlyRetry s = .next s ∧ exec .windowClose s = .next s ∧ exec .tagWriteStart s = .next s ∧
      ∀ k : Station, exec (.heardTimeout k) s = .next s ∧ exec (.stale k) s = .next s ∧
        exec (.peerLost k) s = .next s) ∧
    (s.receive.state = .receiving → exec .receptionStart s = .next s ∧ exec .blankedRxvFall s = .next s) ∧
    (s.receive.state ≠ .receiving →
      exec .frameArrival s = .next s ∧ ∀ rxd : Vector Bool 8, exec (.byteComplete rxd) s = .next s) ∧
    (s.transmit.state ≠ .gap → exec .gapExpiry s = .next s) ∧
    (s.transmit.state ≠ .sending → exec .transmissionEnd s = .next s) ∧
    (s.lap.lock ≠ .locked → ∀ adi : List Bool,
      exec (.blockEvent adi) s = .next s ∧ exec (.portFrameEnd adi) s = .next s) ∧
    (s.lap.lock ≠ .locked ∨ s.lap.frameCounter < 63 → ∀ k : Station,
      exec (.queueLapse k) s = .next s ∧ exec (.driftWindowClose k) s = .next s) ∧
    (s.lap.frameCounter < 63 → ∀ adi : List Bool, exec (.blockEvent adi) s = .next s) ∧
    (s.lap.frameCounter = 63 → ∀ adi : List Bool, exec (.portFrameEnd adi) s = .next s) ∧
    (s.settings.clock = .master ∨ s.lap.lock = .off → exec .missedMark s = .next s ∧
      ∀ spacing : Nat, exec (.frameMark spacing) s = .next s) ∧
    (s.engine.state = .idle → exec .computationComplete s = .next s) ∧
    (s.store.writeState ≠ .idle ∨ s.store.writeQueue = none → exec .tagWriteStart s = .next s) ∧
    (s.store.writeState ≠ .writing → exec .writeTransactionEnd s = .next s) ∧
    (s.store.writeState ≠ .waiting → exec .writeTimeEnd s = .next s) ∧
    (s.store.writeState ≠ .checking → ∀ a b : Vector Bool 8, exec (.writeCompletion a b) s = .next s) ∧
    (sends s.control.selfState = false ∨ s.scheduler.presenceCount < 255 →
      exec .presenceCountExpiry s = .next s) ∧
    (s.control.selfState ≠ .active ∨ s.control.window = none ∨ s.scheduler.offerCount < 31 →
      exec .offerCountExpiry s = .next s) ∧
    (s.control.selfState ≠ .starting ∨ (∀ n ∈ s.control.startTimer, n < 63) →
      exec .listeningPeriodExpiry s = .next s) ∧
    (s.control.selfState ≠ .clashed ∨ (∀ n ∈ s.control.clashWait, n < 63) → exec .clashWaitExpiry s = .next s) ∧
    (s.control.selfState ≠ .listenOnly ∨ (∀ n ∈ s.control.retryCount, n < 255) →
      exec .listenOnlyRetry s = .next s) ∧
    ((∀ n ∈ s.control.window, n < 14999) → exec .windowClose s = .next s) ∧
    ∀ k : Station,
      ((peerAt s k).entry.state ≠ .heard ∨ (peerAt s k).entry.silence < 63 →
        exec (.heardTimeout k) s = .next s) ∧
      ((peerAt s k).entry.state ≠ .admitted ∨ (peerAt s k).entry.silence < 249 →
        exec (.stale k) s = .next s) ∧
      ((peerAt s k).entry.state ≠ .stale ∨ (peerAt s k).entry.silence < 499 →
        exec (.peerLost k) s = .next s) ∧
      ((peerAt s k).queue.state ≠ .playing ∨ (peerAt s k).queue.concealed < 24 →
        exec (.queueLapse k) s = .next s) ∧
      ((peerAt s k).queue.state ≠ .playing ∨ (peerAt s k).drift.depthCount + 1 < s.settings.driftWindow →
        exec (.driftWindowClose k) s = .next s)

/-! ## What lasts across events -/

/-- No event changes the unit identifier, a reset least of all (R37), and the settings stay fixed until
the next power-on (R172). -/
def Obligations.IdentifierAndSettingsLast : Prop :=
  ∀ (c : Instr) (s t : State), exec c s = .next t →
    t.control.unitId = s.control.unitId ∧ (¬ PowersOn c → t.settings = s.settings)

/-- A sticky flag that is set stays set through every event but a power-on and a control word in
which CLEAR rises (R168, R169). -/
def Obligations.FlagStaysSetUntilClearOrPowerOn : Prop :=
  ∀ (c : Instr) (s t : State) (f : Flag), exec c s = .next t → ¬ PowersOn c →
    (∀ w : BitVec 16, TakesWord w c s → wordClear w = true → wordClear s.lap.heldWord = true) →
    hasFlag s.flags f = true → hasFlag t.flags f = true

/-- The capture sequence counter advances by one, modulo 4096, at each block event and at no other event
but a power-on (R20). The held control word changes only at a block event that takes a valid word,
and is then that word: a loss and a regain of lock and FORGET keep it (R159, R162). -/
def Obligations.CounterAndHeldWordMoveAtBlockEventsOnly : Prop :=
  ∀ (c : Instr) (s t : State), exec c s = .next t → ¬ PowersOn c →
    ((∃ adi : List Bool, BlockEventWith adi c s) → t.scheduler.sequence = s.scheduler.sequence + 1) ∧
    ((¬ ∃ adi : List Bool, BlockEventWith adi c s) → t.scheduler.sequence = s.scheduler.sequence) ∧
    (∀ w : BitVec 16, TakesWord w c s → t.lap.heldWord = w) ∧
    ((¬ ∃ w : BitVec 16, TakesWord w c s) → t.lap.heldWord = s.lap.heldWord)

/-- An event leaves every part of the state that its rules do not give it: an arrival and an air tick leave
the audio side, an event of the port leaves the two sides of the link but for the frames it places, and
the shares of an air tick leave all but the blocks they name. Three clauses are the model's: RESETN_LOW
leaves RXV and CBSY (notes/assumptions/5.md), LISTEN_ONLY_RETRY leaves the flags, so that a failed retry
sets no FULL (notes/assumptions/8.md), and a row of one expiry is a share of its air tick or block event
(notes/assumptions/2.md). -/
def Obligations.EventsLeaveThePartsTheyDoNotReach : Prop :=
  ∀ (c : Instr) (s t : State), exec c s = .next t →
    (.phase ∉ reaches c → t.phase = s.phase) ∧ (.settings ∉ reaches c → t.settings = s.settings) ∧
    (.rxv ∉ reaches c → t.rxv = s.rxv) ∧ (.cbsy ∉ reaches c → t.cbsy = s.cbsy) ∧
    (.receive ∉ reaches c → t.receive = s.receive) ∧ (.transmit ∉ reaches c → t.transmit = s.transmit) ∧
    (.scheduler ∉ reaches c → t.scheduler = s.scheduler) ∧ (.control ∉ reaches c → t.control = s.control) ∧
    (.peers ∉ reaches c → t.peers = s.peers) ∧ (.sidetone ∉ reaches c → t.sidetone = s.sidetone) ∧
    (.engine ∉ reaches c → t.engine = s.engine) ∧ (.lap ∉ reaches c → t.lap = s.lap) ∧
    (.flags ∉ reaches c → t.flags = s.flags) ∧ (.scanIndex ∉ reaches c → t.scanIndex = s.scanIndex) ∧
    (.store ∉ reaches c → t.store = s.store)

/-! ## Reset and start-up -/

/-- The state after reset is sound in every part, and holds the power-on values of the rules: no
entry in use, no number, no tag, no frame, every flag clear, every record and count 0. SSN is high,
TXEN and SCK are low, and ATTN, ABCK, AFRM and ADO are high impedance. -/
def Obligations.ResetStateIsSound : Prop :=
  (StationSound State.reset ∧ TimersSound State.reset ∧ EntriesSound State.reset ∧
    TableSound State.reset ∧ QueuesSound State.reset ∧ SlotsInSequence State.reset ∧ DriftSound State.reset ∧
    LevelsSound State.reset ∧ LinkSound State.reset ∧ PortSound State.reset ∧
    StoreSound State.reset ∧ ScanSound State.reset) ∧
  State.reset.scheduler.sequence = 0 ∧ State.reset.control.selfState = .unpaired ∧
  State.reset.control.tag = 0 ∧ State.reset.control.number = none ∧
  State.reset.flags = Flags.clear ∧ State.reset.scanIndex = 0 ∧ State.reset.lap.heldWord = 0 ∧
  State.reset.lap.lock = .off ∧ State.reset.receive.state = .off ∧ State.reset.transmit.state = .off ∧
  State.reset.engine.trimGain = 32768 ∧ txen State.reset = false ∧ ssn State.reset = true ∧
  attnPin State.reset = .highZ ∧
  (∀ h : ClockHalf, sck State.reset h = false ∧ abckPin State.reset h = .highZ) ∧
  (∀ c : BitClock, adoPin State.reset c = .highZ ∧ afrmPin State.reset c = .highZ) ∧
  ∀ k : Station, peerAt State.reset k = Peer.powerOn

/-- RESETN low puts every block at its power-on values whatever the state, and keeps the unit
identifier. The settings, the line levels it leaves, the check register with the bits in assembly, and no
gap timer are the model's (notes/assumptions/5.md, 9.md, 10.md, 14.md).
START_UP, when RESETN rises, begins the start-up read: a read at address 0 of 32 data bytes, 272 SCK
periods, with SSN low; nothing else changes (R171, R172). SCK is low between transactions, and in one
each of its periods goes from low to high (R171). -/
def Obligations.ResetnLowAndStartUp : Prop :=
  (∀ s : State, exec .resetnLow s = .next
    { phase := .held
      settings := State.reset.settings
      rxv := s.rxv
      cbsy := s.cbsy
      receive := State.reset.receive
      transmit := { state := .off, gapTimer := none, onAir := none }
      scheduler :=
        { sequence := 0, held := none, audio := none, announce := none, presenceCount := 0, offerCount := 0 }
      control :=
        { selfState := .unpaired, number := none, tag := 0, unitId := s.control.unitId, window := none
          startTimer := none, clashWait := none, retryCount := none }
      peers := Vector.replicate 8 Peer.powerOn
      sidetone := { blockLevel := 0, smoothed := 0, target := 0, applied := 0 }
      engine := MixEngine.powerOn
      lap :=
        { lock := .off, markCount := 0, frameCounter := 0, leadIn := false, assembly := []
          playback := none, heldWord := 0 }
      flags := Flags.clear
      scanIndex := 0
      store := { transaction := none, writeQueue := none, inProgress := none, writeState := .idle }
      tickDraws := s.tickDraws
      pending := s.pending }) ∧
  (∀ s : State, s.phase = .held →
    exec .startUp s = .next
      { s with
        phase := .reading
        store := { s.store with transaction := some { sent := [0x3C#8, 0x00#8], readBytes := 32 } } } ∧
    sckPeriods { sent := [0x3C#8, 0x00#8], readBytes := 32 } = 272) ∧
  (∀ s : State,
    (s.store.transaction = none → ssn s = true ∧ sck s .falling = false ∧ sck s .rising = false) ∧
    (s.store.transaction ≠ none → ssn s = false ∧ sck s .falling = false ∧ sck s .rising = true))

/-- The completion of the start-up read, with the image whose bytes SMI has carried bit 7 first: each
block leaves its power-on state, and Station Control loads the tag (R11, R31, R39, R152, R153, R171,
R172). A MASTER port drives ABCK and AFRM from then on: AFRM is high in bit clock 0 with WITH position,
and with EARLY position in an extra bit clock before the first frame and in its bit clock P - 1; ADO is
high impedance. A SLAVE port drives neither (R146, R147, R152). The check register, the bits in assembly
and the gap timer keep the values the model gives them at reset (notes/assumptions/10.md, 14.md). -/
def Obligations.StartUpReadCompleteStartsTheBlocks : Prop :=
  ∀ (image : Image) (smi : Vector Bool 256) (s : State), s.phase = .reading → Carries image smi →
    ∃ t : State, exec (.startUpReadComplete smi) s = .next t ∧
      t.phase = .running ∧ t.settings = settingsOf image ∧
      t.rxv = s.rxv ∧ t.cbsy = s.cbsy ∧
      t.receive = { ReceiveSide.powerOn with state := if s.rxv then .blanked else .ready } ∧
      t.transmit = { state := .idle, gapTimer := none, onAir := none } ∧
      t.scheduler = Scheduler.powerOn ∧
      t.control =
        { selfState := if tagOf image = 0 then .unpaired else .starting
          number := none, tag := tagOf image, unitId := s.control.unitId, window := none
          startTimer := if tagOf image = 0 then none else some 0
          clashWait := none, retryCount := none } ∧
      t.peers = Vector.replicate 8 Peer.powerOn ∧ t.sidetone = InputRecord.zero ∧
      t.engine = MixEngine.powerOn ∧
      t.lap =
        { lock := if (settingsOf image).clock = .master then .locked else .unlocked
          markCount := 0, frameCounter := 0
          leadIn := if (settingsOf image).clock = .master then true else false
          assembly := [], playback := none, heldWord := 0 } ∧
      t.flags = Flags.clear ∧ t.scanIndex = 0 ∧ t.store = StoreUnit.powerOn ∧ t.pending = s.pending ∧
      (∀ c : BitClock, adoPin t c = .highZ) ∧
      ((settingsOf image).clock = .master →
        let g := settingsOf image
        let p := g.slotCount * g.slotWidth
        let frame := (List.range p).map BitClock.ofFrame
        abckPin t .falling = .low ∧ abckPin t .rising = .high ∧
        (g.markPosition = .onBitZero → bitClocks t = frame ∧
          ∀ j : Nat, afrmPin t (.ofFrame j) = if j = 0 then .high else .low) ∧
        (g.markPosition = .early → bitClocks t = .extra :: frame ∧ afrmPin t .extra = .high ∧
          ∀ j : Nat, afrmPin t (.ofFrame j) = if j + 1 = p then .high else .low)) ∧
      ((settingsOf image).clock = .slave →
        (∀ h : ClockHalf, abckPin t h = .highZ) ∧ ∀ c : BitClock, afrmPin t c = .highZ)

/-- A marker other than 6D makes the image invalid: every setting takes its default, with the role
BUD and the BUD gains, the tag is 0, and no flag is set (R173).
A valid image is decoded field by field as the table of R174 has it. -/
def Obligations.ImageIsDecodedByItsTableOrDefaulted : Prop :=
  (∀ (image : Image) (smi : Vector Bool 256) (s : State), s.phase = .reading → Carries image smi →
    image[0] ≠ 0x6D#8 →
    ∃ t : State, exec (.startUpReadComplete smi) s = .next t ∧
      t.settings =
        { role := .bud, preferred := 0, clock := .master, slotCount := 4, slotWidth := 16
          markPosition := .early, captureSlot := 0, controlSlot := 3
          lane0Content := .mix, lane0Slot := 1, lane1Content := .status, lane1Slot := 2
          transmitMask := 0x06#8, cadence := .paced, targetDepth := 3, driftWindow := 128
          gateFloor := 64, farGain := 32768, sidetoneGain := 4096, nearGain := 8192, scanLimit := 7
          attnDrive := .openDrain, enables := Flags.clear } ∧
      t.control.tag = 0 ∧ t.control.selfState = .unpaired ∧ t.flags = Flags.clear) ∧
  (∀ image : Image, image[0] = 0x6D#8 →
    (settingsOf image).role = (if image[1] = 1#8 then .gateway else .bud) ∧
    (settingsOf image).preferred.val = image[2].toNat % 8 ∧
    (settingsOf image).clock = (if image[3].toNat / 128 = 1 then .slave else .master) ∧
    (settingsOf image).slotCount =
      (if image[3].toNat / 32 % 4 = 0 then 2 else if image[3].toNat / 32 % 4 = 2 then 8 else 4) ∧
    (settingsOf image).slotWidth =
      (if image[3].toNat / 8 % 4 = 1 then 24 else if image[3].toNat / 8 % 4 = 2 then 32 else 16) ∧
    (settingsOf image).markPosition = (if image[3].toNat / 4 % 2 = 1 then .onBitZero else .early) ∧
    (settingsOf image).captureSlot.val = image[4].toNat % 8 ∧
    (settingsOf image).controlSlot.val = image[5].toNat % 8 ∧
    (settingsOf image).lane0Content =
      (if image[6].toNat / 16 % 4 = 0 then .mix else if image[6].toNat / 16 % 4 = 1 then .capture
        else if image[6].toNat / 16 % 4 = 2 then .status else .zero) ∧
    (settingsOf image).lane0Slot.val = image[6].toNat % 8 ∧
    (settingsOf image).lane1Content =
      (if image[7].toNat / 16 % 4 = 0 then .mix else if image[7].toNat / 16 % 4 = 1 then .capture
        else if image[7].toNat / 16 % 4 = 2 then .status else .zero) ∧
    (settingsOf image).lane1Slot.val = image[7].toNat % 8 ∧
    (settingsOf image).transmitMask = image[8] ∧
    (settingsOf image).cadence = (if image[9].toNat % 2 = 1 then .onData else .paced) ∧
    (settingsOf image).targetDepth =
      (if image[10].toNat < 2 then 2 else if 6 < image[10].toNat then 6 else image[10].toNat) ∧
    (settingsOf image).driftWindow =
      (if image[11] = 0#8 then 64 else if image[11] = 2#8 then 256 else if image[11] = 3#8 then 512 else 128) ∧
    (settingsOf image).gateFloor =
      (if 1023 < image[12].toNat * 256 + image[13].toNat then 1023
        else image[12].toNat * 256 + image[13].toNat) ∧
    (settingsOf image).farGain =
      (if 32768 < image[14].toNat * 256 + image[15].toNat then 32768
        else image[14].toNat * 256 + image[15].toNat) ∧
    (settingsOf image).sidetoneGain =
      (if 32768 < image[16].toNat * 256 + image[17].toNat then 32768
        else image[16].toNat * 256 + image[17].toNat) ∧
    (settingsOf image).nearGain =
      (if 32768 < image[18].toNat * 256 + image[19].toNat then 32768
        else image[18].toNat * 256 + image[19].toNat) ∧
    (settingsOf image).scanLimit = (if image[20] = 1#8 then 1 else if image[20] = 3#8 then 3 else 7) ∧
    (settingsOf image).attnDrive = (if image[21].toNat % 2 = 1 then .openDrain else .pushPull) ∧
    (settingsOf image).enables =
      { accSat := image[22].getLsbD 5, outClip := image[22].getLsbD 4, checkFail := image[22].getLsbD 3
        malformed := image[22].getLsbD 2, foreign := image[22].getLsbD 1, superseded := image[22].getLsbD 0
        underrun := image[23].getLsbD 7, clash := image[23].getLsbD 6, full := image[23].getLsbD 5
        paired := image[23].getLsbD 4, storeFail := image[23].getLsbD 3, lapLost := image[23].getLsbD 2
        peerLapse := image[23].getLsbD 1, peerLost := image[23].getLsbD 0 } ∧
    (tagOf image).toNat = image[24].toNat * 256 + image[25].toNat)

/-! ## Receiving a frame -/

/-- What the edges of RXV outside a reception's end do to the receive side, and how a reception starts
(R11, R13). Eight bits sampled in RECEIVING make a byte, the first its bit 7: it is written to the buffer at
the count while the count is below 71, fed to the check register bit 7 first, and counted up to 255; nothing
else changes (R1, R6, R11). -/
def Obligations.ReceptionMovesTheReceiveSide : Prop :=
  (∀ s : State, s.receive.state = .ready → exec .receptionStart s = .next
    { s with
      rxv := true
      receive := { state := .receiving, buffer := [], byteCount := 0, crc := 0xFFFF#16, bits := [] } }) ∧
  (∀ s : State, s.receive.state = .off ∨ s.receive.state = .blanked →
    exec .receptionStart s = .next { s with rxv := true }) ∧
  (∀ s : State, s.receive.state = .blanked → s.transmit.state ≠ .sending → exec .blankedRxvFall s = .next
    { s with rxv := false, receive := { s.receive with state := .ready } }) ∧
  (∀ s : State, s.receive.state = .off ∨ (s.receive.state = .blanked ∧ s.transmit.state = .sending) →
    exec .blankedRxvFall s = .next { s with rxv := false }) ∧
  (∀ (b : Byte) (rxd : Vector Bool 8) (s : State), s.receive.state = .receiving → s.receive.bits = [] →
    (∀ j : Fin 8, rxd[j] = b.getLsbD (7 - j.val)) → exec (.byteComplete rxd) s = .next
    { s with
      receive :=
        { state := .receiving
          buffer := if s.receive.byteCount < 71 then s.receive.buffer ++ [b] else s.receive.buffer
          byteCount := if s.receive.byteCount < 255 then s.receive.byteCount + 1 else 255
          crc :=
            (List.range 8).foldl
              (fun r i =>
                if Bool.xor (b.getLsbD (7 - i)) (r.getLsbD 15) then (r <<< 1) ^^^ 0x1021#16 else r <<< 1)
              s.receive.crc
          bits := [] } })

/-- The frame check passes on a reception of three or more whole bytes exactly when the CRC of all
but the last two equals the last two, high byte first; it fails on one or two bytes; and the check
register takes every byte, those beyond the 71 kept included; a reception of no whole byte is
discarded without any check and sets no flag, and one that fails sets CHECK_FAIL (R6, R7). -/
def Obligations.FrameCheckComparesTheLastTwoBytes : Prop :=
  (∀ bytes : List Byte, (received bytes).crc = crcOf bytes) ∧
  (∀ (body : List Byte) (hi lo : Byte),
    frameCheckPasses (received (body ++ [hi, lo])) = true ↔ body ≠ [] ∧ crcOf body = hi ++ lo) ∧
  (∀ bytes : List Byte, bytes.length ≤ 2 → frameCheckPasses (received bytes) = false) ∧
  (∀ s : State, s.receive.state = .receiving →
    (s.receive.byteCount = 0 → exec .frameArrival s = .next (endReception s)) ∧
    (s.receive.byteCount ≠ 0 → frameCheckPasses s.receive = false →
      exec .frameArrival s = .next { endReception s with flags := { s.flags with checkFail := true } })) ∧
  crcOf [0x31, 0x32, 0x33, 0x34, 0x35, 0x36, 0x37, 0x38, 0x39] = 0x29B1#16

/-- The form check passes exactly on the items of R15, read at the places of R5. -/
def Obligations.FormCheckHasTheItemsOfItsRule : Prop :=
  ∀ r : ReceiveSide,
    let b := fun i : Nat => (byteOf r.buffer i).toNat
    ((formCheck r).isSome = true ↔
      (b 0 / 16 = 1 ∧ r.byteCount = 71 ∧ b 4 % 16 ≤ 8) ∨
      (b 0 / 16 = 2 ∧ r.byteCount = 7 ∧ 1 ≤ b 4 % 16 ∧ b 4 % 16 ≤ 3) ∨
      (b 0 / 16 = 3 ∧ r.byteCount = 12 ∧ (b 9 % 16 = 2 ∨ b 9 % 16 = 3) ∧
        ((b 9 / 16 = 0 ∧ b 0 / 8 % 2 = 0) ∨ (b 9 / 16 = 1 ∧ b 0 / 8 % 2 = 1))) ∨
      (b 0 / 16 = 4 ∧ r.byteCount = 11 ∧ (b 1 ≠ 0 ∨ b 2 ≠ 0)))

/-- Every frame the part sends, received whole, passes the frame check and the form check and reads
back as it was filled in: a VOICE with its sequence number, exponent and mantissas, a HOLD with its
sequence number and reason, a PRESENCE and an OFFER with the counter and the identifier; byte 9 of a
PRESENCE holds the role above the self state code (R2 to R7, R24). -/
def Obligations.FramesSentAreReadBackWhole : Prop :=
  (∀ (h : HeaderFill) (seq : Seq) (e : Nat) (m : Mantissas), e ≤ 8 →
    frameCheckPasses (received (audioFrameBytes h (.voice seq e m))) = true ∧
    ∃ f : AirFrame, formCheck (received (audioFrameBytes h (.voice seq e m))) = some f ∧
      f.kind = .voice ∧ f.cls = h.cls ∧ f.sender = h.number ∧ f.tag = h.tag ∧ f.seq = seq ∧
      f.field.toNat = e ∧ f.mantissas = m) ∧
  (∀ (h : HeaderFill) (seq : Seq) (r : HoldReason),
    frameCheckPasses (received (audioFrameBytes h (.hold seq r))) = true ∧
    ∃ f : AirFrame, formCheck (received (audioFrameBytes h (.hold seq r))) = some f ∧
      f.kind = .hold ∧ f.cls = h.cls ∧ f.sender = h.number ∧ f.tag = h.tag ∧ f.seq = seq ∧
      f.field = reasonCode r) ∧
  (∀ h : HeaderFill, h.cls = roleClass h.role → sends h.selfState = true →
    frameCheckPasses (received (announceFrameBytes h .presence)) = true ∧
    ∃ f : AirFrame, formCheck (received (announceFrameBytes h .presence)) = some f ∧
      f.kind = .presence ∧ f.cls = h.cls ∧ f.sender = h.number ∧ f.tag = h.tag ∧
      f.seq = h.sequence ∧ f.unitId = h.unitId ∧
      (byteOf (received (announceFrameBytes h .presence)).buffer 9).toNat =
        (match h.role with | .bud => 0 | .gateway => 1) * 16 +
        (match h.selfState with
          | .unpaired => 0 | .starting => 1 | .active => 2 | .clashed => 3 | .listenOnly => 4)) ∧
  (∀ h : HeaderFill, h.tag ≠ 0 →
    frameCheckPasses (received (announceFrameBytes h .offer)) = true ∧
    ∃ f : AirFrame, formCheck (received (announceFrameBytes h .offer)) = some f ∧
      f.kind = .offer ∧ f.cls = h.cls ∧ f.sender = h.number ∧ f.tag = h.tag ∧
      f.seq = h.sequence ∧ f.unitId = h.unitId)

/-- The error of the block code is bounded by the exponent, and the exponent is the smallest whose
range holds the block (R8, R10). -/
def Obligations.BlockCodeErrorIsBoundedByTheExponent : Prop :=
  ∀ (b : Block),
    let e := blockExponent b
    let m := encodeMantissas e b
    e ≤ 8 ∧
    (∀ d : Nat, d < 8 → (e ≤ d ↔ ∀ n : Fin 64,
      -128 * 2 ^ d - (2 ^ d / 2) ≤ b[n].toInt ∧ b[n].toInt ≤ 127 * 2 ^ d + (2 ^ d - 1) / 2)) ∧
    (∀ n : Fin 64,
      (decodeBlock e m)[n].toInt = m[n].toInt * 2 ^ e ∧
      (e = 0 → (decodeBlock e m)[n] = b[n]) ∧
      (1 ≤ e → b[n].toInt < 32640 →
        -(2 ^ (e - 1)) + 1 ≤ (decodeBlock e m)[n].toInt - b[n].toInt ∧
        (decodeBlock e m)[n].toInt - b[n].toInt ≤ 2 ^ (e - 1)) ∧
      (32640 ≤ b[n].toInt →
        e = 8 ∧ (decodeBlock e m)[n].toInt = 32512 ∧
        128 ≤ b[n].toInt - (decodeBlock e m)[n].toInt ∧ b[n].toInt - (decodeBlock e m)[n].toInt ≤ 255))

/-- Arrivals that reach no other block: no whole byte, a failed frame check, a failed form, a frame
of another tag at a paired station, and all but an OFFER at an UNPAIRED one (R12, R15, R16). -/
def Obligations.DiscardedArrivalsSetTheirFlagAndNothingElse : Prop :=
  (∀ s : State, s.receive.state = .receiving → s.receive.byteCount = 0 →
    exec .frameArrival s = .next (endReception s)) ∧
  (∀ s : State, s.receive.state = .receiving → s.receive.byteCount ≠ 0 →
    frameCheckPasses s.receive = false →
    exec .frameArrival s = .next { endReception s with flags := { s.flags with checkFail := true } }) ∧
  (∀ s : State, s.receive.state = .receiving → s.receive.byteCount ≠ 0 →
    frameCheckPasses s.receive = true → formCheck s.receive = none →
    exec .frameArrival s = .next { endReception s with flags := { s.flags with malformed := true } }) ∧
  (∀ (f : AirFrame) (s : State), ArrivesAs f s → s.control.selfState ≠ .unpaired → f.tag ≠ s.control.tag →
    exec .frameArrival s = .next { endReception s with flags := { s.flags with foreign := true } }) ∧
  (∀ (f : AirFrame) (s : State), ArrivesAs f s → s.control.selfState = .unpaired → f.kind ≠ .offer →
    exec .frameArrival s = .next (endReception s))

/-- An OFFER at an UNPAIRED station: adopted if the window is open, and unused if it is closed; a frame on
the air goes on (R16, R29, R34, R51). -/
def Obligations.OfferIsAdoptedWhileTheWindowIsOpen : Prop :=
  ∀ (f : AirFrame) (s : State), ArrivesAs f s → s.control.selfState = .unpaired → f.kind = .offer →
    (s.control.window = none → exec .frameArrival s = .next (endReception s)) ∧
    (s.control.window ≠ none → ∃ t : State, exec .frameArrival s = .next t ∧
      t.control =
        { s.control with
          selfState := .starting, number := none, tag := f.tag, window := none
          startTimer := some 0, clashWait := none, retryCount := none } ∧
      t.flags = { s.flags with paired := true } ∧
      t.store = { s.store with writeQueue := some f.tag } ∧
      t.peers = s.peers ∧
      t.scheduler =
        { s.scheduler with audio := none, announce := none, presenceCount := 0, offerCount := 0 } ∧
      t.transmit = accessAbandoned s.transmit ∧
      t.receive = (endReception s).receive ∧ t.engine = s.engine ∧ t.lap = s.lap)

/-! ## Frames at the Peer Table -/

/-- An accepted frame that moves no record changes the entry of its sender and nothing else: the class,
the liveness and the state by the entry's state (FREE to HEARD, the third frame to ADMITTED with its
queue primed, STALE re-admitted), the identifier of a PRESENCE, the block of a VOICE offered to the
queue (R18, R56 to R58, R61, R62, R65, R66; the record set to 0 at every flush is
notes/assumptions/24.md). One that finds its entry FREE with seven in use goes no further: FULL is
set and the entry's refused mark (R70). -/
def Obligations.AcceptedFrameMovesItsEntry : Prop :=
  ∀ (f : AirFrame) (s : State), ArrivesAccepted f s → MovesNoRecord f s →
    ((peerAt s f.sender).entry.state ≠ .free ∨ entriesInUse s.peers ≤ 6 →
      exec .frameArrival s = .next
        (setPeer f.sender (entryAfter s.settings.targetDepth f (peerAt s f.sender)) (endReception s))) ∧
    ((peerAt s f.sender).entry.state = .free → 7 ≤ entriesInUse s.peers →
      exec .frameArrival s = .next
        { setPeer f.sender
            { peerAt s f.sender with entry := { (peerAt s f.sender).entry with refused := true } }
            (endReception s) with
          flags := { s.flags with full := true } })

/-- A PRESENCE at a FREE or HEARD entry whose identifier another entry in use holds moves that entry's
record whole: state, class, count, queue, sums and gains go on at the new number, with the pending
conditions of both, and take the frame there; the source falls FREE with nothing pending, its queue
IDLE and empty (the last good block it leaves is notes/assumptions/15.md); no other entry and no flag
changes (R67, R68, R97, R128). -/
def Obligations.PresenceCarriesTheRecordOfAKnownUnit : Prop :=
  ∀ (f : AirFrame) (j : Station) (s : State), ArrivesAccepted f s → MovesRecordFrom j f s →
    (peerAt s j).entry.state ≠ .free →
    ∃ t : State, exec .frameArrival s = .next t ∧
      (∀ k : Station, k ≠ f.sender → k ≠ j → peerAt t k = peerAt s k) ∧
      peerAt t f.sender = entryAfter s.settings.targetDepth f
        { peerAt s j with entry := { (peerAt s j).entry with
            refused := false
            conditions := unionConditions (peerAt s f.sender).entry.conditions (peerAt s j).entry.conditions } } ∧
      (peerAt t j).entry.state = .free ∧ (peerAt t j).entry.cls = .near ∧
      (peerAt t j).entry.unitId = none ∧ (peerAt t j).entry.admission = 0 ∧
      (peerAt t j).entry.silence = 0 ∧ (peerAt t j).entry.conditions = Conditions.empty ∧
      (peerAt t j).queue.state = .idle ∧ (peerAt t j).queue.slots = [] ∧
      (peerAt t j).queue.start = none ∧ (peerAt t j).queue.cursor = none ∧
      (peerAt t j).queue.concealed = 0 ∧ (peerAt t j).queue.correction = none ∧
      (peerAt t j).drift = DriftSums.zero ∧ (peerAt t j).record = InputRecord.zero ∧
      t.flags = s.flags ∧ t.control = s.control ∧ t.scheduler = s.scheduler ∧ t.engine = s.engine ∧
      t.sidetone = s.sidetone ∧ t.receive = (endReception s).receive ∧ t.transmit = s.transmit ∧ t.store = s.store

/-! ## The queue of a peer -/

/-- A block offered to a queue: not held in IDLE; the first slot and W in PRIMING with W unset; else
classed by its distance from W as in window, DUPLICATE, AHEAD or LATE (R77 to R83). A block in window is
inserted in its place in sequence order from W, before the first slot that lies farther from W, and
leaves the concealment count and the pending correction (R80). -/
def Obligations.OfferedBlockIsClassedByTheWindow : Prop :=
  ∀ (depth : Nat) (x : Slot) (p : Peer),
    (p.queue.state = .idle → offerBlock depth x p = p) ∧
    (p.queue.state = .priming → p.queue.start = none →
      offerBlock depth x p = { p with queue := { p.queue with slots := [x], start := some x.seq } }) ∧
    (∀ w : Seq, p.queue.state ≠ .idle → p.queue.start = some w →
      ((x.seq - w).toNat ≤ 7 → (∃ y ∈ p.queue.slots, y.seq = x.seq) →
        offerBlock depth x p =
          { p with entry := { p.entry with conditions := { p.entry.conditions with duplicate := true } } }) ∧
      ((x.seq - w).toNat ≤ 7 → (¬ ∃ y ∈ p.queue.slots, y.seq = x.seq) →
        (offerBlock depth x p).entry = p.entry ∧ (offerBlock depth x p).drift = p.drift ∧
        (offerBlock depth x p).record = p.record ∧
        (∃ nearer farther : List Slot,
          p.queue.slots = nearer ++ farther ∧
          (offerBlock depth x p).queue.slots = nearer ++ x :: farther ∧
          (∀ y ∈ nearer, (y.seq - w).toNat < (x.seq - w).toNat) ∧
          ∀ y ∈ farther.head?, (x.seq - w).toNat < (y.seq - w).toNat) ∧
        (InSequence w p.queue.slots → InSequence w (offerBlock depth x p).queue.slots) ∧
        (offerBlock depth x p).queue.start = some w ∧
        (offerBlock depth x p).queue.concealed = p.queue.concealed ∧
        (offerBlock depth x p).queue.correction = p.queue.correction ∧
        (p.queue.state = .priming → depth ≤ p.queue.slots.length + 1 →
          (offerBlock depth x p).queue.state = .playing ∧
          (offerBlock depth x p).queue.cursor = some { block := w, offset := 0 } ∧
          (offerBlock depth x p).queue.lastGood = Vector.replicate 64 0) ∧
        (p.queue.state = .playing ∨ p.queue.slots.length + 1 < depth →
          (offerBlock depth x p).queue.state = p.queue.state ∧
          (offerBlock depth x p).queue.cursor = p.queue.cursor ∧
          (offerBlock depth x p).queue.lastGood = p.queue.lastGood)) ∧
      (8 ≤ (x.seq - w).toNat → (x.seq - w).toNat ≤ 2047 →
        offerBlock depth x p =
          { entry := { p.entry with conditions := { p.entry.conditions with ahead := true } }
            queue := { p.queue with
              state := .priming, slots := [x], start := some x.seq, cursor := none, concealed := 0
              correction := none }
            drift := { depthSum := 0, depthCount := 0 }
            record := { blockLevel := 0, smoothed := 0, target := 0, applied := 0 } }) ∧
      (2048 ≤ (x.seq - w).toNat →
        offerBlock depth x p =
          { p with entry := { p.entry with conditions := { p.entry.conditions with late := true } } }))

/-- A played take: every block of its span is held; the outputs are the table of R86; the last good
block is the output, the count and the pending correction are cleared, and the cursor, W and the
slots advance by the take's length (R84 to R87, R90, R103). Input sample i is sample o + i of the blocks
from the cursor block on (R85). A take whose depth sample brings the count to L closes the window: the
correction it applied is cleared first, then SLIP or STRETCH is set or nothing, and the sums are 0 (R104,
R105). A queue that is not PLAYING makes no take (R84).
The mean of a correction is exact and lies between its two samples (R86). -/
def Obligations.PlayedTakeReadsItsSpan : Prop :=
  (∀ (g : Settings) (p : Peer) (c : Cursor),
    p.queue.state = .playing → p.queue.cursor = some c → 0 < g.driftWindow →
    let k := takeLength p.queue.correction
    let o := c.offset.val
    let sum := p.drift.depthSum + p.queue.slots.length
    let closes := g.driftWindow ≤ p.drift.depthCount + 1
    (∀ j : Nat, j ≤ (o + k - 1) / 64 → ∃ x ∈ p.queue.slots, x.seq = c.block + BitVec.ofNat 12 j) →
    ∃ out : Block, takeOutput p.queue = some out ∧
      (∀ n : Fin 64,
        out[n] =
          if n.val < 32 ∨ p.queue.correction = none then inputSample p.queue c n.val
          else if p.queue.correction = some .slip then
            (if n.val = 32 then meanSample (inputSample p.queue c 32) (inputSample p.queue c 33)
              else inputSample p.queue c (n.val + 1))
          else
            (if n.val = 32 then meanSample (inputSample p.queue c 31) (inputSample p.queue c 32)
              else inputSample p.queue c (n.val - 1))) ∧
      (∀ i : Nat, i < k → ∃ x ∈ p.queue.slots, x.seq = c.block + BitVec.ofNat 12 ((o + i) / 64) ∧
        inputSample p.queue c i = x.samples.toList.getD ((o + i) % 64) 0) ∧
      (takePeer g p).entry = p.entry ∧ (takePeer g p).record = p.record ∧
      (takePeer g p).drift =
        (if closes then { depthSum := 0, depthCount := 0 }
          else { depthSum := sum, depthCount := p.drift.depthCount + 1 }) ∧
      (takePeer g p).queue.state = .playing ∧ (takePeer g p).queue.lastGood = out ∧
      (takePeer g p).queue.concealed = 0 ∧
      (takePeer g p).queue.correction =
        (if closes ∧ (g.targetDepth + 1) * g.driftWindow ≤ sum then some .slip
          else if closes ∧ sum + 1 ≤ g.targetDepth * g.driftWindow then some .stretch
          else none) ∧
      (∃ c' : Cursor, (takePeer g p).queue.cursor = some c' ∧
        c'.offset.val = (o + k) % 64 ∧ c'.block = c.block + BitVec.ofNat 12 ((o + k) / 64) ∧
        (takePeer g p).queue.start = some c'.block) ∧
      ∀ x : Slot, x ∈ (takePeer g p).queue.slots ↔
        x ∈ p.queue.slots ∧ (o + k) / 64 ≤ (x.seq - c.block).toNat) ∧
  (∀ (g : Settings) (p : Peer), p.queue.state ≠ .playing → takeOutput p.queue = none ∧ takePeer g p = p) ∧
  (∀ a b : Sample,
    (meanSample a b).toInt = (a.toInt + b.toInt + 1) / 2 ∧
    min a.toInt b.toInt ≤ (meanSample a b).toInt ∧ (meanSample a b).toInt ≤ max a.toInt b.toInt)

/-- A concealed take, short of the lapse: a block of its span is missing; the output is the last good
block faded by the new count, nowhere of greater magnitude; GAP or DRY is recorded; the cursor
advances one block and the pending correction stays (R85, R88 to R90), but where its depth sample brings
the count to L: then SLIP or STRETCH is set or what is pending stays, and the sums are 0 (R103 to R105). -/
def Obligations.ConcealedTakeFadesTheLastGoodBlock : Prop :=
  ∀ (g : Settings) (p : Peer) (c : Cursor) (j : Nat),
    p.queue.state = .playing → p.queue.cursor = some c → p.queue.concealed < 24 → 0 < g.driftWindow →
    j ≤ (c.offset.val + takeLength p.queue.correction - 1) / 64 →
    (¬ ∃ x ∈ p.queue.slots, x.seq = c.block + BitVec.ofNat 12 j) →
    let f : Int :=
      if p.queue.concealed = 0 then 24576 else if p.queue.concealed = 1 then 16384
      else if p.queue.concealed = 2 then 8192 else 0
    let sum := p.drift.depthSum + p.queue.slots.length
    let closes := g.driftWindow ≤ p.drift.depthCount + 1
    ∃ out : Block, takeOutput p.queue = some out ∧
      (∀ n : Fin 64,
        out[n].toInt = (p.queue.lastGood[n].toInt * f + 16384) / 32768 ∧
        out[n].toInt.natAbs ≤ p.queue.lastGood[n].toInt.natAbs) ∧
      (takePeer g p).record = p.record ∧
      (takePeer g p).drift =
        (if closes then { depthSum := 0, depthCount := 0 }
          else { depthSum := sum, depthCount := p.drift.depthCount + 1 }) ∧
      (takePeer g p).queue.state = .playing ∧
      (takePeer g p).queue.concealed = p.queue.concealed + 1 ∧
      (takePeer g p).queue.lastGood = p.queue.lastGood ∧
      (takePeer g p).queue.correction =
        (if closes ∧ (g.targetDepth + 1) * g.driftWindow ≤ sum then some .slip
          else if closes ∧ sum + 1 ≤ g.targetDepth * g.driftWindow then some .stretch
          else p.queue.correction) ∧
      (takePeer g p).queue.cursor = some { block := c.block + 1, offset := c.offset } ∧
      (takePeer g p).queue.start = some (c.block + 1) ∧
      (∀ x : Slot, x ∈ (takePeer g p).queue.slots ↔ x ∈ p.queue.slots ∧ x.seq ≠ c.block) ∧
      ((∃ x ∈ p.queue.slots, 1 ≤ (x.seq - c.block).toNat ∧ (x.seq - c.block).toNat ≤ 7) →
        (takePeer g p).entry =
          { p.entry with conditions := { p.entry.conditions with gap := true } }) ∧
      ((¬ ∃ x ∈ p.queue.slots, 1 ≤ (x.seq - c.block).toNat ∧ (x.seq - c.block).toNat ≤ 7) →
        (takePeer g p).entry =
          { p.entry with conditions := { p.entry.conditions with dry := true } })

/-- The take that brings the concealment count to 25, with a block of its span missing, lapses the queue:
its output is silence, then PRIMING with W unset, LAPSE, the sums and the record 0, and no correction
pending even where its sample brings the depth count to L; the entry stays as it was (R76, R88, R91,
R104). The row gives the take and PEER_LAPSE, and no other peer and nothing else changes (QUEUE_LAPSE as
the queue's share of its block event is notes/assumptions/2.md). -/
def Obligations.TwentyFifthConcealmentLapsesTheQueue : Prop :=
  ∀ (k : Station) (c : Cursor) (j : Nat) (s : State),
    let p := peerAt s k
    p.queue.state = .playing → p.queue.cursor = some c → p.queue.concealed = 24 →
    j ≤ (c.offset.val + takeLength p.queue.correction - 1) / 64 →
    (¬ ∃ x ∈ p.queue.slots, x.seq = c.block + BitVec.ofNat 12 j) →
    let beyond := p.queue.slots.any fun x =>
      decide (1 ≤ (x.seq - c.block).toNat ∧ (x.seq - c.block).toNat ≤ 7)
    let lapsed : Peer :=
      { entry := { p.entry with conditions := { p.entry.conditions with
          gap := p.entry.conditions.gap || beyond, dry := p.entry.conditions.dry || !beyond
          lapse := true } }
        queue := { p.queue with
          state := .priming, slots := [], start := none, cursor := none, concealed := 0
          correction := none }
        drift := { depthSum := 0, depthCount := 0 }
        record := { blockLevel := 0, smoothed := 0, target := 0, applied := 0 } }
    takeOutput p.queue = some (Vector.replicate 64 0) ∧
    (0 < s.settings.driftWindow → takePeer s.settings p = lapsed) ∧
    (s.lap.lock = .locked → s.lap.frameCounter = 63 →
      exec (.queueLapse k) s = .next
        { setPeer k lapsed s with flags := { s.flags with peerLapse := true } })

/-- A drift window closes at the take whose sample brings the count to L, unless that take lapses the
queue: SLIP at a sum of (D + 1) × L or more, STRETCH below D × L, else what was pending; the sums return
to 0, and nothing else changes (R103 to R105; DRIFT_WINDOW_CLOSE as the tracker's share of the take is
notes/assumptions/2.md). -/
def Obligations.DriftWindowCloseSetsTheCorrection : Prop :=
  ∀ (k : Station) (c : Cursor) (s : State),
    let p := peerAt s k
    let d := s.settings.targetDepth
    let l := s.settings.driftWindow
    let sum := p.drift.depthSum + p.queue.slots.length
    0 < l → p.queue.state = .playing → p.queue.cursor = some c →
    (p.queue.concealed < 24 ∨
      ∀ j : Nat, j ≤ (c.offset.val + takeLength p.queue.correction - 1) / 64 →
        ∃ x ∈ p.queue.slots, x.seq = c.block + BitVec.ofNat 12 j) →
    p.drift.depthCount + 1 = l → s.lap.lock = .locked → s.lap.frameCounter = 63 →
    exec (.driftWindowClose k) s = .next
      (setPeer k
        { p with
          queue := { p.queue with
            correction :=
              if (d + 1) * l ≤ sum then some .slip
              else if sum + 1 ≤ d * l then some .stretch
              else p.queue.correction }
          drift := { depthSum := 0, depthCount := 0 } } s)

/-! ## Levels and gains -/

/-- The block level is the mean magnitude or 0 below the gate floor, and the smoothed level moves
toward it and never past it; both lie within 0 to 32767 (R119, R120). -/
def Obligations.LevelsAreMeanMagnitudesSmoothed : Prop :=
  (∀ (floor : Nat) (b : Block),
    let sum := (b.toList.map fun x => if x.toInt = -32768 then 32767 else x.toInt.natAbs).sum
    meterLevel floor b = (if sum / 64 < floor then 0 else sum / 64) ∧ meterLevel floor b ≤ 32767) ∧
  (∀ l s : Nat,
    (s < l → smoothLevel l s = s + (l - s) / 2) ∧
    (l ≤ s → (smoothLevel l s : Int) = (s : Int) + ((l : Int) - s) / 16) ∧
    min l s ≤ smoothLevel l s ∧ smoothLevel l s ≤ max l s ∧ (l < s → smoothLevel l s < s))

/-- The NEAR shares: with a total T above 0 each is floor(B × S / T) of its own level S, and they sum to B
or to less by fewer than the number of inputs; with a total of 0 each is floor(B / n); a lone input has
B (R123, R124).
Each applied gain moves toward its target by at most 2048, takes it within that distance, and
stays within 0 to 32768 (R125). -/
def Obligations.SharesAndRampKeepTheGains : Prop :=
  (∀ (b : Nat) (levels : List Nat), levels ≠ [] →
    let targets := levels.map fun own => nearTarget b levels.sum levels.length own
    (∀ t ∈ targets, t ≤ b) ∧ targets.sum ≤ b ∧ b < targets.sum + levels.length ∧
    (0 < levels.sum → targets = levels.map fun own => b * own / levels.sum) ∧
    (levels.sum = 0 → ∀ t ∈ targets, t = b / levels.length) ∧
    (levels.length = 1 → targets = [b])) ∧
  (∀ (target : Nat) (r : InputRecord),
    (rampTo target r).target = target ∧
    (rampTo target r).blockLevel = r.blockLevel ∧ (rampTo target r).smoothed = r.smoothed ∧
    ((r.applied ≤ target + 2048 ∧ target ≤ r.applied + 2048) → (rampTo target r).applied = target) ∧
    (r.applied + 2048 < target → (rampTo target r).applied = r.applied + 2048) ∧
    (target + 2048 < r.applied → (rampTo target r).applied + 2048 = r.applied) ∧
    (target ≤ 32768 → r.applied ≤ 32768 → (rampTo target r).applied ≤ 32768))

/-- The input records after a block event: a NEAR input in the mix is metered over the block of its take
and takes its share of the near share gain by the levels metered at this event, a FAR input takes the
stored far gain, and each applied gain makes its ramp step (R115, R119 to R125); the record of a peer not
in the mix is what its take left. SIDETONE takes the stored sidetone gain in a BUD that is not muted by
the word taken at this event, and its record is 0 otherwise (R116, R118, R122, R125). The NEAR targets
sum to the near share gain at most. -/
def Obligations.BlockEventLevelsItsInputs : Prop :=
  ∀ (adi : List Bool) (s t : State), QueuesSound s → s.lap.lock = .locked → s.lap.frameCounter = 63 →
    exec (.blockEvent adi) s = .next t →
    let c := takeControl (controlWord s.settings adi) s
    let mixed := fun k : Station => (peerAt t k).entry.state == .admitted && (peerAt t k).queue.state == .playing
    let near := (List.finRange 8).filter fun k => mixed k && (peerAt t k).entry.cls == .near
    let total := (near.map fun k => (peerAt t k).record.smoothed).sum
    (∀ k : Station, mixed k = true → (peerAt t k).entry.cls = .near →
      ∃ out : Block, takeOutput (peerAt c k).queue = some out ∧
        let metered := meterRecord s.settings.gateFloor out (peerAt c k).record
        (peerAt t k).record =
          rampTo (nearTarget s.settings.nearGain total near.length metered.smoothed) metered) ∧
    (∀ k : Station, mixed k = true → (peerAt t k).entry.cls = .far →
      (peerAt t k).record = rampTo s.settings.farGain (peerAt c k).record) ∧
    (∀ k : Station, mixed k = false → (peerAt t k).record = (takePeer s.settings (peerAt c k)).record) ∧
    (s.settings.role = .bud → wordMute t.lap.heldWord = false →
      t.sidetone = rampTo s.settings.sidetoneGain s.sidetone) ∧
    (s.settings.role = .gateway ∨ wordMute t.lap.heldWord = true →
      t.sidetone = { blockLevel := 0, smoothed := 0, target := 0, applied := 0 }) ∧
    (near.map fun k => (peerAt t k).record.target).sum ≤ s.settings.nearGain

/-! ## Identity: clashes, number choice and the timers of Station Control -/

/-- A frame that carries the own number in ACTIVE: a PRESENCE with the own identifier changes
nothing; any other frame sets CLASH and enters CLASHED with the number kept, a PRESENCE placed, the
clash wait from 0 and no OFFER pending (R17, R28, R37, R43). A pending VOICE is discarded without a flag
and a pending HOLD stays (R29, R38; the model's reading, notes/assumptions/25.md). -/
def Obligations.OwnNumberHeardInActiveOpensAClash : Prop :=
  ∀ (f : AirFrame) (s : State), ArrivesOnClashPath f s → s.control.selfState = .active →
    (f.kind = .presence → f.unitId = s.control.unitId → exec .frameArrival s = .next (endReception s)) ∧
    ((f.kind ≠ .presence ∨ f.unitId ≠ s.control.unitId) →
      ∃ t : State, exec .frameArrival s = .next t ∧
        t.control = { s.control with selfState := .clashed, clashWait := some 0 } ∧
        t.flags = { s.flags with clash := true } ∧
        t.scheduler = { s.scheduler with
          audio := if isVoice s.scheduler.audio then none else s.scheduler.audio
          announce := some .presence, offerCount := 0 } ∧
        t.transmit = accessBegun s.cbsy s.control.number s.transmit ∧
        t.peers = s.peers ∧ t.receive = (endReception s).receive ∧ t.engine = s.engine ∧ t.store = s.store)

/-- In CLASHED a PRESENCE at the own number settles the clash by identifier: kept against a higher
one, moved to the lowest FREE number against a lower one, LISTEN-ONLY with FULL where there is none;
every other frame, and the own identifier, change nothing (R44, R45). The PRESENCE placed on the return to
ACTIVE starts an access from IDLE, its gap that of the number then held; the entry to LISTEN-ONLY empties
both positions, abandons an access and touches no frame on the air, and clears the refused marks alone in
the Peer Table (R29, R31, R34, R42, R47, R70). -/
def Obligations.PresenceSettlesAClashByIdentifier : Prop :=
  ∀ (f : AirFrame) (n : Station) (s : State), ArrivesOnClashPath f s → s.control.selfState = .clashed →
    s.control.number = some n →
    ((f.kind ≠ .presence ∨ f.unitId = s.control.unitId) → exec .frameArrival s = .next (endReception s)) ∧
    (f.kind = .presence → s.control.unitId.toNat < f.unitId.toNat →
      ∃ t : State, exec .frameArrival s = .next t ∧
        t.control = { s.control with
          selfState := .active, startTimer := none, clashWait := none, retryCount := none } ∧
        t.scheduler = { s.scheduler with announce := some .presence, presenceCount := 0, offerCount := 0 } ∧
        t.transmit = accessBegun s.cbsy (some n) s.transmit ∧
        t.peers = s.peers ∧ t.flags = s.flags ∧ t.store = s.store ∧ t.receive = (endReception s).receive) ∧
    (f.kind = .presence → f.unitId.toNat < s.control.unitId.toNat →
      (∀ m : Station, m ≠ n → (peerAt s m).entry.state = .free →
        (∀ i : Station, i < m → i ≠ n → (peerAt s i).entry.state ≠ .free) →
        ∃ t : State, exec .frameArrival s = .next t ∧
          t.control = { s.control with
            selfState := .active, number := some m, startTimer := none, clashWait := none
            retryCount := none } ∧
          t.scheduler = { s.scheduler with announce := some .presence, presenceCount := 0, offerCount := 0 } ∧
          t.transmit = accessBegun s.cbsy (some m) s.transmit ∧
          t.peers = s.peers ∧ t.flags = s.flags ∧ t.store = s.store ∧ t.receive = (endReception s).receive) ∧
      ((∀ i : Station, i ≠ n → (peerAt s i).entry.state ≠ .free) →
        ∃ t : State, exec .frameArrival s = .next t ∧
          t.control = { s.control with
            selfState := .listenOnly, number := none, startTimer := none, clashWait := none
            retryCount := some 0 } ∧
          t.flags = { s.flags with full := true } ∧
          t.scheduler =
            { s.scheduler with audio := none, announce := none, presenceCount := 0, offerCount := 0 } ∧
          t.transmit = accessAbandoned s.transmit ∧
          t.store = s.store ∧ t.receive = (endReception s).receive ∧
          ∀ k : Station, peerAt t k =
            { peerAt s k with entry := { (peerAt s k).entry with refused := false } }))

/-- Number choice takes the preferred number if its entry is FREE and not refused, else the lowest
such entry, else none (R41). -/
def Obligations.NumberChoicePrefersTheStoredNumber : Prop :=
  ∀ s : State,
    let open_ := fun k : Station => (peerAt s k).entry.state = .free ∧ (peerAt s k).entry.refused = false
    (open_ s.settings.preferred → numberChoice s = some s.settings.preferred) ∧
    (∀ m : Station, ¬ open_ s.settings.preferred → open_ m → (∀ i : Station, i < m → ¬ open_ i) →
      numberChoice s = some m) ∧
    ((∀ k : Station, ¬ open_ k) → numberChoice s = none)

/-- The end of the listening period and a retry in LISTEN-ONLY: ACTIVE with the number chosen, both
announce counts 0 and a PRESENCE placed, which starts an access from IDLE; a frame on the air goes on
(R29, R31, R34); with none chosen LISTEN-ONLY with FULL, or, at a retry, the
count back at 0 and no flag (notes/assumptions/8.md); a retry and an entry to LISTEN-ONLY clear the
refused marks (R40 to R42, R47, R70; the rows as shares of an air tick are notes/assumptions/2.md). -/
def Obligations.ListeningAndRetriesEndInANumberOrListenOnly : Prop :=
  (∀ (m : Station) (s : State), s.phase = .running → s.control.selfState = .starting →
    s.control.startTimer = some 63 →
    numberChoice s = some m →
    ∃ t : State, exec .listeningPeriodExpiry s = .next t ∧
      t.control = { s.control with
        selfState := .active, number := some m, startTimer := none, clashWait := none, retryCount := none } ∧
      t.scheduler = { s.scheduler with announce := some .presence, presenceCount := 0, offerCount := 0 } ∧
      t.transmit = accessBegun s.cbsy (some m) s.transmit ∧
      t.peers = s.peers ∧ t.flags = s.flags ∧ t.store = s.store ∧ t.engine = s.engine) ∧
  (∀ s : State, s.phase = .running → s.control.selfState = .starting →
    s.control.startTimer = some 63 → numberChoice s = none →
    ∃ t : State, exec .listeningPeriodExpiry s = .next t ∧
      t.control = { s.control with
        selfState := .listenOnly, number := none, startTimer := none, clashWait := none
        retryCount := some 0 } ∧
      t.scheduler =
        { s.scheduler with audio := none, announce := none, presenceCount := 0, offerCount := 0 } ∧
      t.transmit = accessAbandoned s.transmit ∧
      t.flags = { s.flags with full := true } ∧
      (∀ k : Station, peerAt t k =
        { peerAt s k with entry := { (peerAt s k).entry with refused := false } }) ∧
      t.store = s.store ∧ t.engine = s.engine) ∧
  (∀ (m : Station) (s : State), s.phase = .running → s.control.selfState = .listenOnly →
    s.control.retryCount = some 255 →
    numberChoice s = some m →
    ∃ t : State, exec .listenOnlyRetry s = .next t ∧
      t.control = { s.control with
        selfState := .active, number := some m, startTimer := none, clashWait := none, retryCount := none } ∧
      t.scheduler = { s.scheduler with announce := some .presence, presenceCount := 0, offerCount := 0 } ∧
      t.transmit = accessBegun s.cbsy (some m) s.transmit ∧ t.flags = s.flags ∧
      ∀ k : Station, peerAt t k =
        { peerAt s k with entry := { (peerAt s k).entry with refused := false } }) ∧
  (∀ s : State, s.phase = .running → s.control.selfState = .listenOnly →
    s.control.retryCount = some 255 → numberChoice s = none →
    ∃ t : State, exec .listenOnlyRetry s = .next t ∧
      t.control = { s.control with retryCount := some 0 } ∧ t.scheduler = s.scheduler ∧
      t.transmit = s.transmit ∧ t.flags = s.flags ∧
      ∀ k : Station, peerAt t k =
        { peerAt s k with entry := { (peerAt s k).entry with refused := false } })

/-- When the clash wait expires in CLASHED, the station keeps its number and enters ACTIVE: both
announce counts 0 and a PRESENCE placed, and nothing else changes (R42, R46). -/
def Obligations.ClashWaitExpiryKeepsTheNumber : Prop :=
  ∀ (n : Station) (s : State), s.phase = .running → s.control.selfState = .clashed →
    s.control.number = some n → s.control.clashWait = some 63 →
    exec .clashWaitExpiry s = .next
      { s with
        control := { s.control with
          selfState := .active, startTimer := none, clashWait := none, retryCount := none }
        scheduler := { s.scheduler with announce := some .presence, presenceCount := 0, offerCount := 0 }
        transmit := accessBegun s.cbsy (some n) s.transmit }

/-- The air tick that brings the window timer to 15,000 closes the window: a pending OFFER goes, the
offer count is 0, an access left with nothing to send is abandoned, and nothing else changes (R28,
R29, R31, R49). -/
def Obligations.WindowClosesAtItsLimit : Prop :=
  ∀ s : State, s.phase = .running → s.control.window = some 14999 →
    (s.scheduler.announce = some .offer →
      exec .windowClose s = .next
        { s with
          control := { s.control with window := none }
          scheduler := { s.scheduler with announce := none, offerCount := 0 }
          transmit := if s.scheduler.audio = none then accessAbandoned s.transmit else s.transmit }) ∧
    (s.scheduler.announce ≠ some .offer →
      exec .windowClose s = .next
        { s with
          control := { s.control with window := none }
          scheduler := { s.scheduler with offerCount := 0 } })

/-- The silence limits of an entry: a HEARD entry at 64 falls FREE with no flag, its queue and its
pending conditions as they were; an ADMITTED entry at 250 goes STALE with its queue IDLE and its sums
and record 0; a STALE entry at 500 falls FREE and sets PEER_LOST. No other peer and nothing else
changes (R60, R61, R63; the rows as shares of an air tick are notes/assumptions/2.md). -/
def Obligations.SilenceLimitsMoveTheirEntry : Prop :=
  ∀ (k : Station) (s : State), s.phase = .running →
    let p := peerAt s k
    let freed : Entry :=
      { p.entry with state := .free, cls := .near, unitId := none, admission := 0, silence := 0 }
    (p.entry.state = .heard → p.entry.silence = 63 →
      exec (.heardTimeout k) s = .next (setPeer k { p with entry := freed } s)) ∧
    (p.entry.state = .admitted → p.entry.silence = 249 →
      exec (.stale k) s = .next
        (setPeer k
          { entry := { p.entry with state := .stale, silence := 250 }
            queue := { p.queue with
              state := .idle, slots := [], start := none, cursor := none, concealed := 0, correction := none }
            drift := { depthSum := 0, depthCount := 0 }
            record := { blockLevel := 0, smoothed := 0, target := 0, applied := 0 } } s)) ∧
    (p.entry.state = .stale → p.entry.silence = 499 →
      exec (.peerLost k) s = .next
        { setPeer k { p with entry := freed } s with flags := { s.flags with peerLost := true } })

/-! ## Air ticks and announcements -/

/-- In ON-DATA cadence an air tick is no transmit event: the audio position, the held block, UNDERRUN and
SUPERSEDED stand (R22, R23). The audio frame of a PACED air tick: in ACTIVE the first case of R22 that applies, in CLASHED the
first case of R30, with the flags and the held block as they say; a VOICE replaced sets SUPERSEDED
(R25). In the other self states none is made (R29). That ACTIVE makes VOICE of any held block, one completed
in CLASHED among them, is the model's choice (notes/assumptions/26.md). -/
def Obligations.AirTickMakesItsAudioFrame : Prop :=
  (∀ s : State, s.phase = .running → s.settings.cadence = .onData →
    sends s.control.selfState = true ∨ s.scheduler.audio = none →
    ∃ t : State, exec .airTick s = .next t ∧
      t.scheduler.audio = s.scheduler.audio ∧ t.scheduler.held = s.scheduler.held ∧
      t.flags.underrun = s.flags.underrun ∧ t.flags.superseded = s.flags.superseded) ∧
  ∀ s : State, s.phase = .running → s.settings.cadence = .paced →
    let mute := wordMute s.lap.heldWord
    let unlocked := decide (s.lap.lock ≠ .locked)
    (s.control.selfState = .active →
      ∃ t : State, exec .airTick s = .next t ∧
        t.scheduler.audio = some
          (if mute then .hold s.scheduler.sequence .muted
            else match s.scheduler.held with
              | some b =>
                .voice b.seq (blockExponent b.samples) (encodeMantissas (blockExponent b.samples) b.samples)
              | none =>
                if unlocked then .hold s.scheduler.sequence .lapLost else .hold s.scheduler.sequence .underrun) ∧
        t.scheduler.held = (if mute then s.scheduler.held else none) ∧
        t.flags.underrun = (s.flags.underrun || (!mute && s.scheduler.held.isNone && !unlocked)) ∧
        t.flags.superseded = (s.flags.superseded || isVoice s.scheduler.audio)) ∧
    (s.control.selfState = .clashed →
      ∃ t : State, exec .airTick s = .next t ∧
        t.scheduler.audio = some (.hold s.scheduler.sequence
          (if mute then .muted
            else if unlocked && s.scheduler.held.isNone then .lapLost else .underrun)) ∧
        t.scheduler.held = (if mute then s.scheduler.held else none) ∧
        t.flags.underrun = (s.flags.underrun || (!mute && s.scheduler.held.isNone && !unlocked)) ∧
        t.flags.superseded = (s.flags.superseded || isVoice s.scheduler.audio)) ∧
    (sends s.control.selfState = false → s.scheduler.audio = none →
      ∃ t : State, exec .airTick s = .next t ∧
        t.scheduler.audio = none ∧ t.scheduler.held = s.scheduler.held ∧
        t.flags.underrun = s.flags.underrun ∧ t.flags.superseded = s.flags.superseded)

/-- Every entry's silence count at an air tick: FREE entries stand, the others count one, and an entry
that reaches its limit changes state; PEER_LOST is set exactly where a STALE entry falls FREE (R59
to R61, R63). -/
def Obligations.AirTickCountsTheSilenceOfEveryEntry : Prop :=
  ∀ s : State, s.phase = .running →
    ∃ t : State, exec .airTick s = .next t ∧
      (∀ k : Station,
        let e := (peerAt s k).entry
        let e' := (peerAt t k).entry
        e'.conditions = e.conditions ∧
        (e.state = .free → e'.state = .free ∧ e'.silence = e.silence ∧ e'.unitId = e.unitId) ∧
        (e.state = .heard → e.silence < 63 → e'.state = .heard ∧ e'.silence = e.silence + 1 ∧
          e'.unitId = e.unitId ∧ e'.admission = e.admission ∧ e'.cls = e.cls) ∧
        (e.state = .heard → e.silence = 63 → e'.state = .free ∧ e'.silence = 0 ∧ e'.unitId = none ∧
          e'.admission = 0 ∧ e'.cls = .near) ∧
        (e.state = .admitted → e.silence < 249 → e'.state = .admitted ∧ e'.silence = e.silence + 1 ∧
          e'.unitId = e.unitId ∧ (peerAt t k).queue = (peerAt s k).queue ∧
          (peerAt t k).record = (peerAt s k).record) ∧
        (e.state = .admitted → e.silence = 249 → e'.state = .stale ∧ e'.silence = 250 ∧
          e'.unitId = e.unitId ∧ e'.cls = e.cls ∧ e'.admission = e.admission ∧
          (peerAt t k).queue.state = .idle ∧ (peerAt t k).queue.slots = [] ∧
          (peerAt t k).record = InputRecord.zero) ∧
        (e.state = .stale → e.silence < 499 → e'.state = .stale ∧ e'.silence = e.silence + 1 ∧
          e'.unitId = e.unitId) ∧
        (e.state = .stale → e.silence = 499 → e'.state = .free ∧ e'.silence = 0 ∧ e'.unitId = none ∧
          e'.admission = 0 ∧ e'.cls = .near)) ∧
      ((∃ k : Station, (peerAt s k).entry.state = .stale ∧ 499 ≤ (peerAt s k).entry.silence) →
        t.flags.peerLost = true) ∧
      ((¬ ∃ k : Station, (peerAt s k).entry.state = .stale ∧ 499 ≤ (peerAt s k).entry.silence) →
        t.flags.peerLost = s.flags.peerLost)

/-- A whole air tick in each self state. The presence count to 256 places a PRESENCE in ACTIVE and in
CLASHED, with the window open or closed, and returns to 0; the offer count to 32 places an OFFER in ACTIVE
while the window is open, unless a PRESENCE is pending, and returns to 0; the window timer closes the
window at 15,000, with the offer count 0 and no OFFER pending (R26 to R28, R49). The clash wait to 64
returns the station to ACTIVE with its number (R43, R46); the start timer to 64 ends in the number chosen
or in LISTEN-ONLY with FULL (R40, R41); the retry count to 256 chooses again, and the refused marks are
cleared (R47, R70). The choice comes before or after the table's timeouts of the same tick (the order is
free, notes/assumptions/7.md; no FULL at a retry is notes/assumptions/8.md). A queued tag write starts
(R175). Where a frame is pending after the tick, IDLE has started an access with the gap of the number then
held, and DEFER, GAP and SENDING go on; where none is, an access is abandoned and a frame on the air goes
on (R25, R29, R31). -/
def Obligations.AirTickCountsTimersAndAnnouncements : Prop :=
  ∀ s : State, s.phase = .running → StationSound s → TimersSound s →
    let window : Option Nat :=
      match s.control.window with
      | none => none
      | some w => if w = 14999 then none else some (w + 1)
    let counted : StationControl := { s.control with window := window }
    let stopped : StationControl := { counted with startTimer := none, clashWait := none, retryCount := none }
    ∃ (t : State) (choice : Option Station), exec .airTick s = .next t ∧
      (choice = numberChoice s ∨ choice = numberChoice (tableTick s)) ∧
      (s.control.selfState = .unpaired → t.control = counted ∧ t.scheduler.presenceCount = 0) ∧
      (s.control.selfState = .active →
        t.control = counted ∧
        t.scheduler.presenceCount = (s.scheduler.presenceCount + 1) % 256 ∧
        t.scheduler.offerCount = (if window = none then 0 else (s.scheduler.offerCount + 1) % 32) ∧
        t.scheduler.announce =
          (if s.scheduler.presenceCount = 255 ∨ s.scheduler.announce = some .presence then some .presence
            else if window = none then none
            else if s.scheduler.offerCount = 31 then some .offer
            else s.scheduler.announce)) ∧
      (∀ n ∈ s.control.clashWait, n < 63 →
        t.control = { counted with clashWait := some (n + 1) } ∧
        t.scheduler.presenceCount = (s.scheduler.presenceCount + 1) % 256 ∧ t.scheduler.offerCount = 0 ∧
        t.scheduler.announce =
          (if s.scheduler.presenceCount = 255 then some .presence else s.scheduler.announce)) ∧
      (s.control.clashWait = some 63 →
        t.control = { stopped with selfState := .active } ∧ t.scheduler.presenceCount = 0 ∧
        t.scheduler.offerCount = 0 ∧ t.scheduler.announce = some .presence) ∧
      (∀ n ∈ s.control.startTimer, n < 63 →
        t.control = { counted with startTimer := some (n + 1) } ∧ t.scheduler.presenceCount = 0 ∧
        t.scheduler.announce = none) ∧
      (∀ n ∈ s.control.retryCount, n < 255 →
        t.control = { counted with retryCount := some (n + 1) } ∧ t.scheduler.presenceCount = 0 ∧
        t.scheduler.announce = none) ∧
      (s.control.startTimer = some 63 ∨ s.control.retryCount = some 255 →
        t.scheduler.presenceCount = 0 ∧ t.scheduler.offerCount = 0 ∧ t.scheduler.audio = none ∧
        t.scheduler.announce = (if choice = none then none else some .presence) ∧
        (∀ m : Station, choice = some m →
          t.control = { stopped with selfState := .active, number := some m } ∧ t.flags.full = s.flags.full) ∧
        (choice = none →
          t.control = { stopped with selfState := .listenOnly, number := none, retryCount := some 0 } ∧
          t.flags.full = (s.flags.full || decide (s.control.selfState = .starting))) ∧
        (s.control.selfState = .listenOnly ∨ choice = none →
          ∀ k : Station, (peerAt t k).entry.refused = false)) ∧
      (LinkSound s → t.transmit =
        if t.scheduler.audio = none ∧ t.scheduler.announce = none then accessAbandoned s.transmit
        else accessBegun s.cbsy t.control.number s.transmit) ∧
      t.store =
        (match s.store.writeState, s.store.writeQueue with
        | .idle, some v =>
          { transaction := some
              { sent := [0xC3#8, 24#8, BitVec.ofNat 8 (v.toNat / 256), BitVec.ofNat 8 v.toNat], readBytes := 0 }
            writeQueue := none, inProgress := some v, writeState := .writing }
        | _, _ => s.store)

/-- The presence count and the offer count at their limits: a PRESENCE is placed whatever the position
holds; an OFFER unless a PRESENCE is pending; placing a frame in IDLE starts an access, with the gap
50 + 25 × N µs where CBSY is low; no flag is set and nothing else changes (R26 to R28, R31; the rows
as shares of an air tick are notes/assumptions/2.md). -/
def Obligations.AnnounceCountsPlaceTheirFrames : Prop :=
  ∀ (n : Station) (s : State), s.phase = .running → s.control.number = some n →
    let access : TransmitSide := accessBegun s.cbsy (some n) s.transmit
    (s.control.selfState = .active ∨ s.control.selfState = .clashed → s.scheduler.presenceCount = 255 →
      exec .presenceCountExpiry s = .next
        { s with
          scheduler := { s.scheduler with announce := some .presence, presenceCount := 0 }
          transmit := access }) ∧
    (s.control.selfState = .active → s.control.window ≠ none → s.scheduler.offerCount = 31 →
      (s.scheduler.announce = some .presence →
        exec .offerCountExpiry s = .next { s with scheduler := { s.scheduler with offerCount := 0 } }) ∧
      (s.scheduler.announce ≠ some .presence →
        exec .offerCountExpiry s = .next
          { s with
            scheduler := { s.scheduler with announce := some .offer, offerCount := 0 }
            transmit := access }))

/-! ## Channel access -/

/-- CBSY moves the transmit side between DEFER and GAP: a rise in GAP returns it to DEFER and keeps no
part of the gap; a fall in DEFER starts the full gap; in the other states the line alone moves (R31). The
line as a level of State is notes/assumptions/5.md, and no gap timer outside GAP is 14.md. -/
def Obligations.ChannelBusyMovesDeferAndGap : Prop :=
  (∀ s : State, s.transmit.state = .gap → exec .cbsyRise s = .next
    { s with cbsy := true, transmit := { s.transmit with state := .defer, gapTimer := none } }) ∧
  (∀ s : State, s.transmit.state ≠ .gap → exec .cbsyRise s = .next { s with cbsy := true }) ∧
  (∀ (n : Station) (s : State), s.transmit.state = .defer → s.control.number = some n →
    exec .cbsyFall s = .next
      { s with
        cbsy := false
        transmit := { s.transmit with state := .gap, gapTimer := some (50 + 25 * n.val) } }) ∧
  (∀ s : State, s.transmit.state ≠ .defer → exec .cbsyFall s = .next { s with cbsy := false })

/-- A gap that expires with CBSY low sends the announcement, or else the audio frame: it leaves its
position, the header is filled from the values held then, and the receive side is BLANKED (R13, R24,
R32). With CBSY high, nothing goes out (notes/assumptions/1.md; no gap timer outside GAP is 14.md). -/
def Obligations.GapExpirySendsTheChosenFrame : Prop :=
  (∀ (n : Station) (a : AnnounceFrame) (s : State), s.transmit.state = .gap → s.cbsy = false →
    s.control.number = some n → s.scheduler.announce = some a →
    exec .gapExpiry s = .next
      { s with
        scheduler := { s.scheduler with announce := none }
        transmit :=
          { state := .sending, gapTimer := none
            onAir := some (announceFrameBytes
              { cls := if s.settings.role = .gateway then .far else .near
                number := n, tag := s.control.tag, sequence := s.scheduler.sequence
                unitId := s.control.unitId, role := s.settings.role, selfState := s.control.selfState } a) }
        receive := { s.receive with state := .blanked, bits := [] } }) ∧
  (∀ (n : Station) (f : AudioFrame) (s : State), s.transmit.state = .gap → s.cbsy = false →
    s.control.number = some n → s.scheduler.announce = none → s.scheduler.audio = some f →
    exec .gapExpiry s = .next
      { s with
        scheduler := { s.scheduler with audio := none }
        transmit :=
          { state := .sending, gapTimer := none
            onAir := some (audioFrameBytes
              { cls := if s.settings.role = .gateway then .far else .near
                number := n, tag := s.control.tag, sequence := s.scheduler.sequence
                unitId := s.control.unitId, role := s.settings.role, selfState := s.control.selfState } f) }
        receive := { s.receive with state := .blanked, bits := [] } }) ∧
  (∀ s : State, s.transmit.state = .gap → s.cbsy = true → exec .gapExpiry s = .next s)

/-- The end of a transmission: DEFER and on to GAP while a frame is pending, else IDLE, as after a FORGET
or an entry to LISTEN-ONLY on the air; a station that holds no number takes N = 8. The receive side
leaves BLANKED if RXV is low; nothing else changes (R11, R13, R29, R31, R33, R34; no gap timer outside GAP
is notes/assumptions/14.md). -/
def Obligations.TransmissionEndReturnsTheSides : Prop :=
  ∀ s : State, s.transmit.state = .sending →
    exec .transmissionEnd s = .next
      { s with
        transmit :=
          if s.scheduler.audio = none ∧ s.scheduler.announce = none then
            { state := .idle, gapTimer := none, onAir := none }
          else if s.cbsy then { state := .defer, gapTimer := none, onAir := none }
          else
            { state := .gap
              gapTimer := some (50 + 25 * match s.control.number with | some n => n.val | none => 8)
              onAir := none }
        receive :=
          if s.receive.state = .blanked ∧ s.rxv = false then { s.receive with state := .ready } else s.receive }

/-! ## The audio port and the block event -/

/-- What a port frame carries. On ADO, while LOCKED with the lead-in clear, the slots of the
transmit-select mask are driven, and no others: lane 0's sample of this frame in lane 0's slot, lane 1's in
its own where that is another, and 0 in the rest, bit 15 first and 0 after the sixteenth bit. ADO is high
impedance in the lead-in and while the port is not LOCKED (R147, R148, R150).
At the end of a port frame other than 63, the first 16 bits of the capture slot, the first as bit 15,
are appended to the block in assembly, or 0 where the slot is not of the frame; the frame counter
advances; nothing else changes (R148, R149, R151, R158). -/
def Obligations.PortFrameCarriesItsSamples : Prop :=
  (∀ (b : Playback) (i : Fin 64) (slot bit : Nat) (s : State), s.lap.lock = .locked →
    s.lap.leadIn = false → s.lap.playback = some b → s.lap.frameCounter = i.val →
    slot < s.settings.slotCount → bit < s.settings.slotWidth →
    let x : Sample :=
      if s.settings.lane0Slot.val = slot then b.lane0[i]
      else if s.settings.lane1Slot.val = slot then b.lane1[i]
      else 0
    adoPin s (.ofFrame (slot * s.settings.slotWidth + bit)) =
      if s.settings.transmitMask.getLsbD slot then
        (if bit < 16 ∧ x.getLsbD (15 - bit) = true then .high else .low)
      else .highZ) ∧
  (∀ (c : BitClock) (s : State), s.lap.lock ≠ .locked ∨ s.lap.leadIn = true → adoPin s c = .highZ) ∧
  ∀ (adi : List Bool) (s : State), s.lap.lock = .locked → s.lap.frameCounter < 63 →
    ∃ x : Sample, exec (.portFrameEnd adi) s = .next
        { s with lap := { s.lap with
            frameCounter := s.lap.frameCounter + 1, assembly := s.lap.assembly ++ [x] } } ∧
      (s.settings.captureSlot.val < s.settings.slotCount → ∀ i : Nat, i < 16 →
        x.getLsbD (15 - i) = adi.getD (s.settings.captureSlot.val * s.settings.slotWidth + i) false) ∧
      (s.settings.slotCount ≤ s.settings.captureSlot.val → x = 0)

/-- The control word: an invalid one acts on nothing; a valid one becomes the held word and sets the
trim step, and with no field rising does no more; a rising CLEAR clears the flags; a rising FORGET
frees the table, idles the queues, empties the positions, drops the tag and the number, queues a
store write of 0 where the tag was not 0, and leaves the flags, the counter, the held block and the
SIDETONE record; it and the creation of a tag abandon an access and let a frame on the air go on (R34); a rising PAIR opens the window or restarts its timer, after FORGET in one word, and
creates the tag of an UNPAIRED GATEWAY (R49, R50, R53, R54, R71, R137, R159 to R162, R169). -/
def Obligations.ControlWordActsByItsFields : Prop :=
  ∀ (w : BitVec 16) (s : State),
    let held := s.lap.heldWord
    let t := takeControl (some w) s
    let clears := w.getLsbD 4 && !held.getLsbD 4
    let forgets := w.getLsbD 5 && !held.getLsbD 5
    let pairs := w.getLsbD 6 && !held.getLsbD 6
    let creates := pairs && (forgets || s.control.selfState == .unpaired) && s.settings.role == .gateway
    takeControl none s = s ∧
    (w.extractLsb' 12 4 ≠ 0b1010#4 → t = s) ∧
    (w.extractLsb' 12 4 = 0b1010#4 →
      t.lap = { s.lap with heldWord := w } ∧
      t.engine = { s.engine with trimStep := (w.extractLsb' 7 4).toFin } ∧
      (clears = false → forgets = false → pairs = false →
        t = { s with
          lap := { s.lap with heldWord := w }
          engine := { s.engine with trimStep := (w.extractLsb' 7 4).toFin } }) ∧
      t.flags = { (if clears then Flags.clear else s.flags) with
        paired := creates || (!clears && s.flags.paired) } ∧
      t.scheduler.sequence = s.scheduler.sequence ∧ t.scheduler.held = s.scheduler.held ∧
      t.sidetone = s.sidetone ∧ t.receive = s.receive ∧ t.scanIndex = s.scanIndex ∧
      (forgets = true →
        (∀ k : Station, (peerAt t k).entry = Entry.powerOn ∧ (peerAt t k).queue.state = .idle ∧
          (peerAt t k).queue.slots = [] ∧ (peerAt t k).queue.start = none ∧
          (peerAt t k).queue.cursor = none ∧ (peerAt t k).drift = DriftSums.zero ∧
          (peerAt t k).record = InputRecord.zero) ∧
        t.control.number = none) ∧
      (forgets = true ∨ creates = true →
        t.scheduler.audio = none ∧ t.scheduler.announce = none ∧ t.scheduler.presenceCount = 0 ∧
        t.scheduler.offerCount = 0 ∧ t.transmit = accessAbandoned s.transmit) ∧
      (forgets = true → creates = false →
        t.control.selfState = .unpaired ∧ t.control.tag = 0 ∧
        t.control.window = (if pairs then some 0 else none) ∧
        t.control.startTimer = none ∧ t.control.clashWait = none ∧ t.control.retryCount = none ∧
        t.store = { s.store with
          writeQueue := if s.control.tag = 0 then s.store.writeQueue else some 0 }) ∧
      (creates = true →
        t.control.selfState = .starting ∧ t.control.number = none ∧ t.control.window = some 0 ∧
        t.control.startTimer = some 0 ∧
        t.control.tag.toNat =
          (if s.control.unitId.toNat % 65536 = 0 then 1 else s.control.unitId.toNat % 65536) ∧
        t.store = { s.store with writeQueue := some t.control.tag }) ∧
      (forgets = false → t.peers = s.peers) ∧
      (forgets = false → creates = false →
        t.control = { s.control with window := if pairs then some 0 else s.control.window } ∧
        t.store = s.store ∧ t.scheduler = s.scheduler ∧ t.transmit = s.transmit))

/-- The hand-over of a capture block at a block event: sample i of the block is that of port frame i, as
assembled, and sample 63 the first 16 bits of the capture slot in the frame that ends, or 0 where that
slot is not of the frame (R148, R149, R151); in PACED cadence the block completed is held
with the next sequence number, or none is while muted, and one dropped for it in ACTIVE or CLASHED
sets SUPERSEDED; in ON-DATA cadence it goes out as VOICE in ACTIVE, or a HOLD goes in its place, and a
VOICE it replaces sets SUPERSEDED (R20, R21, R23, R25, R30). A frame so placed starts an access where the
word has left the transmit side IDLE, and DEFER, GAP and SENDING go on (R25, R31). The mute is that of the
word taken at the event (R160). -/
def Obligations.BlockEventHandsOverTheCaptureBlock : Prop :=
  ∀ (adi : List Bool) (s : State), s.lap.lock = .locked → s.lap.frameCounter = 63 →
    let c := takeControl (controlWord s.settings adi) s
    let mute := wordMute c.lap.heldWord
    let seq := s.scheduler.sequence + 1
    let block := completedCapture adi s
    ∃ t : State, exec (.blockEvent adi) s = .next t ∧ t.scheduler.sequence = seq ∧
      (s.lap.assembly.length = 63 → ∀ i : Fin 64, i.val < 63 → s.lap.assembly[i.val]? = some block[i]) ∧
      (s.lap.assembly.length = 63 →
        (s.settings.captureSlot.val < s.settings.slotCount → ∀ i : Nat, i < 16 →
          block[63].getLsbD (15 - i) =
            adi.getD (s.settings.captureSlot.val * s.settings.slotWidth + i) false) ∧
        (s.settings.slotCount ≤ s.settings.captureSlot.val → block[63] = 0)) ∧
      t.transmit =
        (if s.settings.cadence = .onData ∧ sends c.control.selfState = true then
          accessBegun s.cbsy c.control.number c.transmit
        else c.transmit) ∧
      (s.settings.cadence = .paced →
        t.scheduler.held = (if mute then none else some { seq := seq, samples := block }) ∧
        t.scheduler.audio = c.scheduler.audio ∧
        t.flags.superseded =
          (c.flags.superseded || (!mute && c.scheduler.held.isSome && sends c.control.selfState))) ∧
      (s.settings.cadence = .onData →
        t.scheduler.held = c.scheduler.held ∧
        t.flags.superseded =
          (c.flags.superseded || (sends c.control.selfState && isVoice c.scheduler.audio)) ∧
        t.scheduler.audio =
          (if c.control.selfState = .active then
            (if mute then some (.hold seq .muted)
              else some (.voice seq (blockExponent block) (encodeMantissas (blockExponent block) block)))
          else if c.control.selfState = .clashed then
            (if mute then some (.hold seq .muted) else some (.hold seq .underrun))
          else c.scheduler.audio))

/-- A block event: the counters and the block in assembly start anew, each lane takes its content for
the block that begins, a computation begins with the trim gain of the word taken, every queue makes
its take after the control word, the scan index advances, and what the event does not own stays (R84,
R94, R133, R137, R140 to R143, R157, R158, R163). The STATUS lane's word is the word at the scan index of
the state that the control word, the hand-over and the takes leave (R165); where it is a PEER word, its
entry's conditions are then empty (R167). The flags are those the word leaves, with SUPERSEDED by the
hand-over, and PEER_LAPSE where a take brings a concealment count to 25 (R91, R169). The announce position
and both announce counts are those the word leaves; the hand-over moves the rest of the Scheduler. -/
def Obligations.BlockEventBeginsTheNextBlock : Prop :=
  ∀ (adi : List Bool) (s : State), s.lap.lock = .locked → s.lap.frameCounter = 63 →
    let c := takeControl (controlWord s.settings adi) s
    let mute := wordMute c.lap.heldWord
    let mix := match s.engine.state, s.engine.ready with
      | .computing, _ => Vector.replicate 64 0
      | .idle, some b => b
      | .idle, none => Vector.replicate 64 0
    let capture := if mute then Vector.replicate 64 0 else completedCapture adi s
    let taken := fun k : Station => takePeer s.settings (peerAt c k)
    ∃ (t : State) (word : BitVec 16) (lane0 lane1 : Block), exec (.blockEvent adi) s = .next t ∧
      t.lap = { c.lap with
        frameCounter := 0, leadIn := false, assembly := []
        playback := some { lane0 := lane0, lane1 := lane1 } } ∧
      lane0 = (match s.settings.lane0Content with
        | .mix => mix
        | .capture => capture
        | .status => Vector.replicate 64 word
        | .zero => Vector.replicate 64 0) ∧
      lane1 = (match s.settings.lane1Content with
        | .mix => mix
        | .capture => capture
        | .status => Vector.replicate 64 word
        | .zero => Vector.replicate 64 0) ∧
      (s.scanIndex ≤ 10 → word.toNat / 4096 = s.scanIndex) ∧
      word = statusWord { t with
        scanIndex := s.scanIndex
        peers := Vector.ofFn fun k => { peerAt t k with entry := (taken k).entry } } ∧
      (∀ k : Station, (peerAt t k).entry =
        if s.scanIndex = 3 + k.val then { (taken k).entry with conditions := Conditions.empty }
        else (taken k).entry) ∧
      t.flags = { c.flags with superseded := t.flags.superseded, peerLapse := t.flags.peerLapse } ∧
      (t.flags.peerLapse = true ↔ c.flags.peerLapse = true ∨
        ∃ (k : Station) (cur : Cursor) (j : Nat),
          (peerAt c k).queue.state = .playing ∧ (peerAt c k).queue.cursor = some cur ∧
          24 ≤ (peerAt c k).queue.concealed ∧
          j ≤ (cur.offset.val + takeLength (peerAt c k).queue.correction - 1) / 64 ∧
          ¬ ∃ x ∈ (peerAt c k).queue.slots, x.seq = cur.block + BitVec.ofNat 12 j) ∧
      t.scanIndex = (if s.settings.scanLimit + 3 ≤ s.scanIndex then 0 else s.scanIndex + 1) ∧
      t.engine.state = .computing ∧ t.engine.trimStep = c.engine.trimStep ∧
      t.engine.trimGain = trimGainOf c.engine.trimStep ∧ t.engine.discard = false ∧
      t.engine.accumulators = Vector.replicate 64 0 ∧ t.engine.accSatCause = false ∧
      t.engine.outClipCause = false ∧ t.engine.ready = none ∧
      t.engine.lastAccSat = s.engine.lastAccSat ∧ t.engine.lastOutClip = s.engine.lastOutClip ∧
      (∀ k : Station, (peerAt t k).queue = (taken k).queue ∧ (peerAt t k).drift = (taken k).drift ∧
        (peerAt t k).entry.state = (peerAt c k).entry.state ∧
        (peerAt t k).entry.silence = (peerAt c k).entry.silence) ∧
      t.scheduler = { c.scheduler with
        sequence := s.scheduler.sequence + 1, held := t.scheduler.held, audio := t.scheduler.audio } ∧
      t.control = c.control ∧ t.store = c.store ∧ t.receive = s.receive ∧ t.settings = s.settings ∧
      t.rxv = s.rxv ∧ t.cbsy = s.cbsy ∧ t.phase = s.phase

/-- The inputs of a computation: a peer is handed exactly where its entry is ADMITTED and its queue
PLAYING after the takes, in the group of its class, with the block of its take and its applied gain;
SIDETONE exactly in a BUD that is not muted, with the capture block and its applied gain (R115, R116,
R129). -/
def Obligations.ComputationTakesThePlayingPeersAndSidetone : Prop :=
  ∀ (adi : List Bool) (s t : State), QueuesSound s → s.lap.lock = .locked → s.lap.frameCounter = 63 →
    exec (.blockEvent adi) s = .next t →
    (∀ (k : Station) (cls : AudioClass),
      (∃ i ∈ t.engine.inputs, i.source = .peer cls k) ↔
        (peerAt t k).entry.state = .admitted ∧ (peerAt t k).queue.state = .playing ∧
          (peerAt t k).entry.cls = cls) ∧
    (∀ (k : Station) (cls : AudioClass), ∀ i ∈ t.engine.inputs, i.source = .peer cls k →
      i.gain = (peerAt t k).record.applied ∧
      takeOutput (peerAt (takeControl (controlWord s.settings adi) s) k).queue = some i.block) ∧
    ((∃ i ∈ t.engine.inputs, i.source = .sidetone) ↔
      s.settings.role = .bud ∧ wordMute t.lap.heldWord = false) ∧
    (∀ i ∈ t.engine.inputs, i.source = .sidetone →
      i.gain = t.sidetone.applied ∧ i.block = completedCapture adi s) ∧
    (t.engine.inputs.map MixInput.source).Nodup

/-! ## The Mix Engine -/

/-- An addition forms the exact sum and saturates it to the accumulator's range, and one whose exact sum
lies outside it is marked; one or two products never saturate and are summed exactly; a lone input at
unity passes the rounding and the clamp unchanged (R135, R136).
An output sample is the sum rounded, clamped and scaled by the trim gain, round half up; the trim gains
are the table of R137. The trim scales a clamped value exactly at step 0, raises its magnitude at no step,
and its result is a sample (R136 to R138). -/
def Obligations.TwoProductsAreExactAndTrimNeverRaises : Prop :=
  (∀ (n : Fin 64) (a : Sum) (i : MixInput),
    let exact : Int := a.acc.toInt + i.block[n].toInt * i.gain
    (addInput n a i).acc.toInt =
      (if exact < -2147483648 then -2147483648 else if 2147483647 < exact then 2147483647 else exact) ∧
    ((addInput n a i).saturated = true ↔
      a.saturated = true ∨ exact < -2147483648 ∨ 2147483647 < exact)) ∧
  (∀ (acc : BitVec 32) (step : Fin 16),
    let rounded := (acc.toInt + 16384) / 32768
    let y := if rounded < -32768 then -32768 else if 32767 < rounded then 32767 else rounded
    (outputSample acc (trimGainOf step)).toInt = (y * trimGainOf step + 16384) / 32768) ∧
  (List.finRange 16).map trimGainOf =
    [32768, 26029, 20675, 16423, 13045, 10362, 8231, 6538, 5193, 4125, 3277, 2603, 2068, 1642, 1305, 1036] ∧
  (∀ (n : Fin 64) (a b : MixInput), a.gain ≤ 32768 → b.gain ≤ 32768 →
    let one := addInput n { acc := 0, saturated := false } a
    let two := addInput n one b
    one.saturated = false ∧ one.acc.toInt = a.block[n].toInt * a.gain ∧
    two.saturated = false ∧
    two.acc.toInt = a.block[n].toInt * a.gain + b.block[n].toInt * b.gain) ∧
  (∀ (n : Fin 64) (a : MixInput), a.gain = 32768 →
    clips (roundSum (addInput n { acc := 0, saturated := false } a).acc) = false ∧
    outputSample (addInput n { acc := 0, saturated := false } a).acc 32768 = a.block[n]) ∧
  (∀ (step : Fin 16) (y : Int), -32768 ≤ y → y ≤ 32767 →
    (trimSample y (trimGainOf step)).natAbs ≤ y.natAbs ∧
    -32768 ≤ trimSample y (trimGainOf step) ∧ trimSample y (trimGainOf step) ≤ 32767 ∧
    trimSample y (trimGainOf 0) = y)

/-- The order of addition is SIDETONE, the FAR inputs, the NEAR inputs, each group by ascending number,
whatever the order of the hand-over (R134). -/
def Obligations.OrderOfAdditionIsFixed : Prop :=
  ∀ l : List MixInput, (l.map MixInput.source).Nodup →
    (additionOrder l).Perm l ∧
    (additionOrder l).Pairwise (fun a b => match a.source, b.source with
      | .sidetone, _ => True
      | .peer _ _, .sidetone => False
      | .peer .far _, .peer .near _ => True
      | .peer .near _, .peer .far _ => False
      | .peer .far j, .peer .far k => j ≤ k
      | .peer .near j, .peer .near k => j ≤ k) ∧
    ∀ l' : List MixInput, l'.Perm l → additionOrder l' = additionOrder l

/-- A computation that completes sets the flags of its causes, copies both causes, empties its input
list, and readies its block unless it is marked to be discarded; nothing else changes but what the
engine keeps of the sums (R135, R136, R138, R139; notes/assumptions/11.md and 16.md). -/
def Obligations.CompletionReadiesTheBlockAndSetsItsFlags : Prop :=
  ∀ s : State, s.engine.state = .computing →
    let sum := fun n : Fin 64 =>
      (additionOrder s.engine.inputs).foldl (addInput n) { acc := s.engine.accumulators[n], saturated := false }
    ∃ (t : State) (sat clip : Bool) (out : Block), exec .computationComplete s = .next t ∧
      (sat = true ↔ s.engine.accSatCause = true ∨ ∃ n : Fin 64, (sum n).saturated = true) ∧
      (clip = true ↔ s.engine.outClipCause = true ∨ ∃ n : Fin 64,
        ((sum n).acc.toInt + 16384) / 32768 < -32768 ∨ 32767 < ((sum n).acc.toInt + 16384) / 32768) ∧
      (∀ n : Fin 64, out[n] = outputSample (sum n).acc s.engine.trimGain) ∧
      t.flags = { s.flags with accSat := s.flags.accSat || sat, outClip := s.flags.outClip || clip } ∧
      t.engine.state = .idle ∧ t.engine.inputs = [] ∧
      t.engine.lastAccSat = sat ∧ t.engine.lastOutClip = clip ∧
      t.engine.ready = (if s.engine.discard then s.engine.ready else some out) ∧
      t.engine.trimStep = s.engine.trimStep ∧
      t.peers = s.peers ∧ t.lap = s.lap ∧ t.control = s.control ∧ t.scheduler = s.scheduler ∧
      t.sidetone = s.sidetone ∧ t.settings = s.settings ∧ t.transmit = s.transmit ∧
      t.receive = s.receive ∧ t.store = s.store ∧ t.scanIndex = s.scanIndex ∧ t.phase = s.phase

/-! ## Lock -/

/-- A frame mark in SLAVE mode: in UNLOCKED the run of well-spaced marks grows, begins anew at a wrong
spacing, and locks the port at the fourth, which flushes the PRIMING and PLAYING queues to PRIMING; in
LOCKED a mark at the right spacing changes nothing (R99, R153, R154, R156).
A loss of lock, at a mark of wrong spacing or at a missed mark: LAP_LOST, the blocks in assembly and
in playback discarded, the lead-in clear, the held word kept, SIDETONE out of the mix, the ready block
discarded and a computation in flight marked; the queues are not touched. A missed mark in UNLOCKED
ends the run (R98, R118, R144, R153 to R155). -/
def Obligations.MarksGainAndLoseLock : Prop :=
  (∀ (spacing : Nat) (s : State), s.settings.clock = .slave →
    let p := s.settings.slotCount * s.settings.slotWidth
    (s.lap.lock = .unlocked → s.lap.markCount = 0 ∨ spacing ≠ p →
      exec (.frameMark spacing) s = .next { s with lap := { s.lap with markCount := 1 } }) ∧
    (s.lap.lock = .unlocked → s.lap.markCount = 1 ∨ s.lap.markCount = 2 → spacing = p →
      exec (.frameMark spacing) s = .next { s with lap := { s.lap with markCount := s.lap.markCount + 1 } }) ∧
    (s.lap.lock = .unlocked → s.lap.markCount = 3 → spacing = p →
      ∃ t : State, exec (.frameMark spacing) s = .next t ∧
        t.lap = { s.lap with lock := .locked, markCount := 0, frameCounter := 0, leadIn := true, assembly := [] } ∧
        (∀ k : Station, (peerAt s k).queue.state = .idle → peerAt t k = peerAt s k) ∧
        (∀ k : Station, (peerAt s k).queue.state ≠ .idle → peerAt t k =
          { entry := (peerAt s k).entry
            queue := { (peerAt s k).queue with
              state := .priming, slots := [], start := none, cursor := none, concealed := 0, correction := none }
            drift := { depthSum := 0, depthCount := 0 }
            record := { blockLevel := 0, smoothed := 0, target := 0, applied := 0 } }) ∧
        t.flags = s.flags ∧ t.engine = s.engine ∧ t.sidetone = s.sidetone ∧ t.control = s.control ∧
        t.scheduler = s.scheduler) ∧
    (s.lap.lock = .locked → spacing = p → exec (.frameMark spacing) s = .next s)) ∧
  (∀ s : State, s.settings.clock = .slave →
    let lost := fun marks : Nat =>
      { s with
        lap := { s.lap with
          lock := .unlocked, markCount := marks, frameCounter := 0, leadIn := false, assembly := []
          playback := none }
        sidetone := { blockLevel := 0, smoothed := 0, target := 0, applied := 0 }
        engine := { s.engine with
          ready := none, discard := if s.engine.state = .computing then true else s.engine.discard }
        flags := { s.flags with lapLost := true } }
    (∀ spacing : Nat, s.lap.lock = .locked → spacing ≠ s.settings.slotCount * s.settings.slotWidth →
      exec (.frameMark spacing) s = .next (lost 1)) ∧
    (s.lap.lock = .locked → exec .missedMark s = .next (lost 0)) ∧
    (s.lap.lock = .unlocked → exec .missedMark s = .next { s with lap := { s.lap with markCount := 0 } }))

/-! ## Status, attention and the settings store -/

/-- The layout of the status words: SELF, FLAGS-A, FLAGS-B and PEER k bit by bit, LATE and DUPLICATE
shown as 0 where AHEAD is pending (R164, R166, R167). The word at scan index 0 is SELF, at 1 FLAGS-A, at 2
FLAGS-B and at 3 + k PEER k (R163). -/
def Obligations.StatusWordsHaveTheirLayouts : Prop :=
  ∀ s : State,
    (selfWord s).toNat =
      (match s.control.selfState with
        | .unpaired => 0 | .starting => 1 | .active => 2 | .clashed => 3 | .listenOnly => 4) * 512 +
      (match s.control.number with | none => 0 | some n => n.val) * 64 +
      s.control.window.isSome.toNat * 32 + (s.lap.heldWord.getLsbD 11).toNat * 16 +
      (((List.finRange 8).filter fun k => (peerAt s k).entry.state == .admitted).length % 8) * 2 +
      (s.settings.role == .gateway).toNat ∧
    (flagsAWord s).toNat = 0x1000 +
      s.flags.checkFail.toNat * 2048 + s.flags.malformed.toNat * 1024 + s.flags.foreign.toNat * 512 +
      s.flags.superseded.toNat * 256 + s.flags.underrun.toNat * 128 + s.flags.clash.toNat * 64 +
      s.flags.full.toNat * 32 + s.flags.paired.toNat * 16 + s.flags.storeFail.toNat * 8 +
      s.flags.lapLost.toNat * 4 + s.flags.peerLapse.toNat * 2 + s.flags.peerLost.toNat ∧
    (flagsBWord s).toNat = 0x2000 + s.flags.accSat.toNat * 2048 + s.flags.outClip.toNat * 1024 +
      s.engine.lastAccSat.toNat * 512 + s.engine.lastOutClip.toNat * 256 ∧
    (s.scanIndex = 0 → statusWord s = selfWord s) ∧ (s.scanIndex = 1 → statusWord s = flagsAWord s) ∧
    (s.scanIndex = 2 → statusWord s = flagsBWord s) ∧
    ∀ k : Station,
      (s.scanIndex = 3 + k.val → statusWord s = peerWord k (peerAt s k)) ∧
      (peerWord k (peerAt s k)).toNat = (3 + k.val) * 4096 +
        (match (peerAt s k).entry.state with | .free => 0 | .heard => 1 | .admitted => 2 | .stale => 3) * 1024 +
        (match (peerAt s k).queue.state with | .idle => 0 | .priming => 1 | .playing => 2) * 256 +
        (match (peerAt s k).entry.cls with | .near => 0 | .far => 1) * 128 +
        ((peerAt s k).entry.conditions.late && !(peerAt s k).entry.conditions.ahead).toNat * 64 +
        ((peerAt s k).entry.conditions.duplicate && !(peerAt s k).entry.conditions.ahead).toNat * 32 +
        (peerAt s k).entry.conditions.ahead.toNat * 16 + (peerAt s k).entry.conditions.gap.toNat * 8 +
        (peerAt s k).entry.conditions.dry.toNat * 4 + (peerAt s k).entry.conditions.lapse.toNat * 2 +
        (peerAt s k).entry.conditions.admission.toNat

/-- ATTN is asserted exactly while a flag is set whose enable is set, driven by the stored drive from
the end of start-up, and high impedance before it; it begins deasserted, and the enables and the drive
are fixed until the next power-on (R170). -/
def Obligations.AttnFollowsTheEnabledFlags : Prop :=
  ∀ s : State,
    (attnAsserted s = true ↔ ∃ f : Flag, hasFlag s.flags f = true ∧ hasFlag s.settings.enables f = true) ∧
    (s.phase ≠ .running → attnPin s = .highZ) ∧
    (s.phase = .running → s.settings.attnDrive = .pushPull →
      attnPin s = if attnAsserted s then .high else .low) ∧
    (s.phase = .running → s.settings.attnDrive = .openDrain →
      attnPin s = if attnAsserted s then .low else .highZ) ∧
    (∀ smi : Vector Bool 256, s.phase = .reading → ∃ t : State, exec (.startUpReadComplete smi) s = .next t ∧
      attnAsserted t = false ∧ attnPin t = if t.settings.attnDrive = .pushPull then .low else .highZ) ∧
    ∀ (c : Instr) (t : State), exec c s = .next t → ¬ PowersOn c →
      t.settings.enables = s.settings.enables ∧ t.settings.attnDrive = s.settings.attnDrive

/-- The phases of a tag write: the queued value starts from IDLE with the write transaction, the write
time follows it, then the read-back; the bits read back, bit 15 first, are compared with the value in
progress, STORE_FAIL is set where they differ, and the state returns to IDLE; the queue and everything else
stand (R171, R175, R176; TAG_WRITE_START as the store unit's share of an air tick is
notes/assumptions/2.md). -/
def Obligations.TagWriteGoesThroughItsPhases : Prop :=
  (∀ (v : Tag) (s : State), s.phase = .running → s.store.writeState = .idle →
    s.store.writeQueue = some v →
    exec .tagWriteStart s = .next
      { s with
        store :=
          { transaction := some
              { sent := [0xC3#8, 24#8, BitVec.ofNat 8 (v.toNat / 256), BitVec.ofNat 8 v.toNat], readBytes := 0 }
            writeQueue := none, inProgress := some v, writeState := .writing } }) ∧
  (∀ s : State, s.store.writeState = .writing → exec .writeTransactionEnd s = .next
    { s with store := { s.store with transaction := none, writeState := .waiting } }) ∧
  (∀ s : State, s.store.writeState = .waiting → exec .writeTimeEnd s = .next
    { s with
      store := { s.store with
        transaction := some { sent := [0x3C#8, 24#8], readBytes := 2 }, writeState := .checking } }) ∧
  (∀ (v : Tag) (first second : Vector Bool 8) (s : State), s.store.writeState = .checking →
    s.store.inProgress = some v →
    exec (.writeCompletion first second) s = .next
      { s with
        store := { s.store with transaction := none, inProgress := none, writeState := .idle }
        flags := { s.flags with
          storeFail := s.flags.storeFail || decide
            (∃ j : Fin 8, first[j] ≠ v.getLsbD (15 - j.val) ∨ second[j] ≠ v.getLsbD (7 - j.val)) } })

/-! ## Invariants that every step keeps -/

/-- Station Control holds a tag, a number and a timer exactly in the self states of R38's table, and
the Scheduler holds no frame and counts nothing in the states that do not send, and no VOICE in CLASHED
(R27 to R29, R38; the VOICE at the entry to CLASHED is notes/assumptions/25.md). -/
def Obligations.StepKeepsStationSound : Prop :=
  ∀ s t : State, step s = .next t →
    (StationSound s → StationSound t) ∧ (TimersSound s → TimersSound t)

/-- At most seven entries are not FREE, and the own number's entry is FREE (R70); the fields of an entry agree
with its state (R55 to R63). -/
def Obligations.StepKeepsTableSound : Prop :=
  ∀ s t : State, step s = .next t →
    (TableSound s → TableSound t) ∧ (EntriesSound s → EntriesSound t)

/-- A queue is PRIMING or PLAYING exactly while its entry is ADMITTED, holds at most 8 slots inside its
window with no two of one number, and its fields agree with its state (R75, R80, R83, R91, R107). The
slots stand in sequence order from W (R80).
The drift sums stay in their ranges (R101). -/
def Obligations.StepKeepsQueuesSound : Prop :=
  ∀ s t : State, step s = .next t →
    (QueuesSound s → QueuesSound t) ∧ (SlotsInSequence s → SlotsInSequence t) ∧ (DriftSound s → DriftSound t)

/-- Every level and gain stays in its range, and the record of an input that is not in the mix is 0:
SIDETONE while the port is not locked, muted or in a GATEWAY, a peer while its queue is not PLAYING
(R114, R116 to R118, R120, R125). -/
def Obligations.StepKeepsLevelsSound : Prop :=
  ∀ s t : State, step s = .next t → LevelsSound s → LevelsSound t

/-- The sides of the AFP agree with each other, with the lines and with the pending positions, and no bits
are in assembly between events (R11, R13, R31; the bits of a byte in one event are notes/assumptions/13.md; no gap timer outside GAP is notes/assumptions/14.md). -/
def Obligations.StepKeepsLinkSound : Prop :=
  ∀ s t : State, step s = .next t → LinkSound s → LinkSound t

/-- The port's fields agree with its lock state, and what a loss of lock leaves of the engine stays so
until lock returns (R144, R146, R155, R158); the tag write's fields agree with its phase (R171, R175,
R176); the scan index names a word of the rotation (R163). -/
def Obligations.StepKeepsPortStoreAndScanSound : Prop :=
  ∀ s t : State, step s = .next t →
    (PortSound s → PortSound t) ∧ (StoreSound s → StoreSound t) ∧ (ScanSound s → ScanSound t)
end

