-- ==== Sys2Proof/Laws/Conditions.lean ====
section
/-! SUPPORT. What the conditions that the meanings test say, as propositions. -/

namespace Sys2Proof.Machine

/-- An entry's silence limit falls due: at 64 in HEARD, 250 in ADMITTED, 500 in STALE (R59). -/
theorem silenceDue_iff (e : Entry) :
    silenceDue e = true ↔
      (e.state = .heard ∧ 63 ≤ e.silence) ∨ (e.state = .admitted ∧ 249 ≤ e.silence) ∨
        (e.state = .stale ∧ 499 ≤ e.silence) := by
  unfold silenceDue silenceLimit
  cases e.state <;> simp

/-- A timer falls due at the air tick that brings it to its limit. -/
theorem timerDue_iff (limit : Nat) (t : Option Nat) : timerDue limit t = true ↔ ∃ n ∈ t, limit ≤ n + 1 := by
  cases t <;> simp [timerDue]

/-- The states that send (R29). -/
theorem sends_iff (st : SelfState) : sends st = true ↔ st = .active ∨ st = .clashed := by
  cases st <;> simp [sends]

theorem sends_eq_false_iff (st : SelfState) :
    sends st = false ↔ st = .unpaired ∨ st = .starting ∨ st = .listenOnly := by
  cases st <;> simp [sends]

/-- The transmit side waits for the channel. -/
theorem accessing_iff (t : TransmitState) : accessing t = true ↔ t = .defer ∨ t = .gap := by
  cases t <;> simp [accessing]

/-- A cursor is taken from a PLAYING queue alone (R84). -/
theorem takeCursor_eq_some_iff (q : Queue) (c : Cursor) :
    takeCursor q = some c ↔ q.state = .playing ∧ q.cursor = some c := by
  unfold takeCursor
  cases q.state <;> simp

/-- A take lapses its queue: a concealed take that brings the count to 25 (R91). -/
theorem lapseDue_iff (q : Queue) :
    lapseDue q = true ↔
      ∃ c : Cursor, q.state = .playing ∧ q.cursor = some c ∧ takePlays q c = false ∧ 24 ≤ q.concealed := by
  unfold lapseDue
  cases h : takeCursor q with
  | none =>
    simp only [Bool.false_eq_true, false_iff, not_exists, not_and]
    intro c hs hc
    exact absurd ((takeCursor_eq_some_iff q c).2 ⟨hs, hc⟩) (by simp [h])
  | some c =>
    obtain ⟨hs, hc⟩ := (takeCursor_eq_some_iff q c).1 h
    simp [hs, hc]

/-- The entry may receive a moved record: FREE or HEARD (R67, R69). -/
theorem mayReceive_iff (e : Entry) : mayReceive e = true ↔ e.state = .free ∨ e.state = .heard := by
  simp [mayReceive]

/-- A frame is pending where either position holds one. -/
theorem framePending_eq_false_iff (s : State) :
    framePending s = false ↔ s.scheduler.audio = none ∧ s.scheduler.announce = none := by
  simp [framePending]

theorem framePending_iff (s : State) :
    framePending s = true ↔ s.scheduler.audio ≠ none ∨ s.scheduler.announce ≠ none := by
  simp [framePending, Option.isSome_iff_ne_none]

/-- A valid word has 1010 in its top four bits (R159). -/
theorem wordValid_iff (w : BitVec 16) : wordValid w = true ↔ w.extractLsb' 12 4 = 0b1010#4 := by
  simp [wordValid]

end Sys2Proof.Machine
end

