-- ==== Sys2Proof/Laws/State.lean ====
section
/-! SUPPORT. What each shared operation over the state leaves alone (its frame), and the fields it
writes. Every lemma is a simp lemma, so no later proof unfolds a record update. -/

namespace Sys2Proof.Machine

/-! ## Frames of the shared operations -/

@[simp] theorem setFlag_frame (f : Flag) (s : State) :
    (setFlag f s).phase = s.phase ∧
    (setFlag f s).settings = s.settings ∧
    (setFlag f s).rxv = s.rxv ∧
    (setFlag f s).cbsy = s.cbsy ∧
    (setFlag f s).receive = s.receive ∧
    (setFlag f s).transmit = s.transmit ∧
    (setFlag f s).scheduler = s.scheduler ∧
    (setFlag f s).control = s.control ∧
    (setFlag f s).peers = s.peers ∧
    (setFlag f s).sidetone = s.sidetone ∧
    (setFlag f s).engine = s.engine ∧
    (setFlag f s).lap = s.lap ∧
    (setFlag f s).scanIndex = s.scanIndex ∧
    (setFlag f s).store = s.store ∧
    (setFlag f s).tickDraws = s.tickDraws ∧
    (setFlag f s).pending = s.pending := by
  simp [setFlag]

@[simp] theorem setFlagIf_frame (c : Bool) (f : Flag) (s : State) :
    (setFlagIf c f s).phase = s.phase ∧
    (setFlagIf c f s).settings = s.settings ∧
    (setFlagIf c f s).rxv = s.rxv ∧
    (setFlagIf c f s).cbsy = s.cbsy ∧
    (setFlagIf c f s).receive = s.receive ∧
    (setFlagIf c f s).transmit = s.transmit ∧
    (setFlagIf c f s).scheduler = s.scheduler ∧
    (setFlagIf c f s).control = s.control ∧
    (setFlagIf c f s).peers = s.peers ∧
    (setFlagIf c f s).sidetone = s.sidetone ∧
    (setFlagIf c f s).engine = s.engine ∧
    (setFlagIf c f s).lap = s.lap ∧
    (setFlagIf c f s).scanIndex = s.scanIndex ∧
    (setFlagIf c f s).store = s.store ∧
    (setFlagIf c f s).tickDraws = s.tickDraws ∧
    (setFlagIf c f s).pending = s.pending := by
  cases c <;> simp [setFlagIf]

@[simp] theorem clearFlags_frame (s : State) :
    (clearFlags s).phase = s.phase ∧
    (clearFlags s).settings = s.settings ∧
    (clearFlags s).rxv = s.rxv ∧
    (clearFlags s).cbsy = s.cbsy ∧
    (clearFlags s).receive = s.receive ∧
    (clearFlags s).transmit = s.transmit ∧
    (clearFlags s).scheduler = s.scheduler ∧
    (clearFlags s).control = s.control ∧
    (clearFlags s).peers = s.peers ∧
    (clearFlags s).sidetone = s.sidetone ∧
    (clearFlags s).engine = s.engine ∧
    (clearFlags s).lap = s.lap ∧
    (clearFlags s).scanIndex = s.scanIndex ∧
    (clearFlags s).store = s.store ∧
    (clearFlags s).tickDraws = s.tickDraws ∧
    (clearFlags s).pending = s.pending := by
  simp [clearFlags]

@[simp] theorem setPeer_frame (k : Station) (p : Peer) (s : State) :
    (setPeer k p s).phase = s.phase ∧
    (setPeer k p s).settings = s.settings ∧
    (setPeer k p s).rxv = s.rxv ∧
    (setPeer k p s).cbsy = s.cbsy ∧
    (setPeer k p s).receive = s.receive ∧
    (setPeer k p s).transmit = s.transmit ∧
    (setPeer k p s).scheduler = s.scheduler ∧
    (setPeer k p s).control = s.control ∧
    (setPeer k p s).sidetone = s.sidetone ∧
    (setPeer k p s).engine = s.engine ∧
    (setPeer k p s).lap = s.lap ∧
    (setPeer k p s).flags = s.flags ∧
    (setPeer k p s).scanIndex = s.scanIndex ∧
    (setPeer k p s).store = s.store ∧
    (setPeer k p s).tickDraws = s.tickDraws ∧
    (setPeer k p s).pending = s.pending := by
  simp [setPeer]

@[simp] theorem updatePeer_frame (k : Station) (f : Peer → Peer) (s : State) :
    (updatePeer k f s).phase = s.phase ∧
    (updatePeer k f s).settings = s.settings ∧
    (updatePeer k f s).rxv = s.rxv ∧
    (updatePeer k f s).cbsy = s.cbsy ∧
    (updatePeer k f s).receive = s.receive ∧
    (updatePeer k f s).transmit = s.transmit ∧
    (updatePeer k f s).scheduler = s.scheduler ∧
    (updatePeer k f s).control = s.control ∧
    (updatePeer k f s).sidetone = s.sidetone ∧
    (updatePeer k f s).engine = s.engine ∧
    (updatePeer k f s).lap = s.lap ∧
    (updatePeer k f s).flags = s.flags ∧
    (updatePeer k f s).scanIndex = s.scanIndex ∧
    (updatePeer k f s).store = s.store ∧
    (updatePeer k f s).tickDraws = s.tickDraws ∧
    (updatePeer k f s).pending = s.pending := by
  simp [updatePeer]

@[simp] theorem mapPeers_frame (f : Peer → Peer) (s : State) :
    (mapPeers f s).phase = s.phase ∧
    (mapPeers f s).settings = s.settings ∧
    (mapPeers f s).rxv = s.rxv ∧
    (mapPeers f s).cbsy = s.cbsy ∧
    (mapPeers f s).receive = s.receive ∧
    (mapPeers f s).transmit = s.transmit ∧
    (mapPeers f s).scheduler = s.scheduler ∧
    (mapPeers f s).control = s.control ∧
    (mapPeers f s).sidetone = s.sidetone ∧
    (mapPeers f s).engine = s.engine ∧
    (mapPeers f s).lap = s.lap ∧
    (mapPeers f s).flags = s.flags ∧
    (mapPeers f s).scanIndex = s.scanIndex ∧
    (mapPeers f s).store = s.store ∧
    (mapPeers f s).tickDraws = s.tickDraws ∧
    (mapPeers f s).pending = s.pending := by
  simp [mapPeers]

@[simp] theorem clearRefused_frame (s : State) :
    (clearRefused s).phase = s.phase ∧
    (clearRefused s).settings = s.settings ∧
    (clearRefused s).rxv = s.rxv ∧
    (clearRefused s).cbsy = s.cbsy ∧
    (clearRefused s).receive = s.receive ∧
    (clearRefused s).transmit = s.transmit ∧
    (clearRefused s).scheduler = s.scheduler ∧
    (clearRefused s).control = s.control ∧
    (clearRefused s).sidetone = s.sidetone ∧
    (clearRefused s).engine = s.engine ∧
    (clearRefused s).lap = s.lap ∧
    (clearRefused s).flags = s.flags ∧
    (clearRefused s).scanIndex = s.scanIndex ∧
    (clearRefused s).store = s.store ∧
    (clearRefused s).tickDraws = s.tickDraws ∧
    (clearRefused s).pending = s.pending := by
  simp [clearRefused]

@[simp] theorem enterDefer_frame (s : State) :
    (enterDefer s).phase = s.phase ∧
    (enterDefer s).settings = s.settings ∧
    (enterDefer s).rxv = s.rxv ∧
    (enterDefer s).cbsy = s.cbsy ∧
    (enterDefer s).receive = s.receive ∧
    (enterDefer s).scheduler = s.scheduler ∧
    (enterDefer s).control = s.control ∧
    (enterDefer s).peers = s.peers ∧
    (enterDefer s).sidetone = s.sidetone ∧
    (enterDefer s).engine = s.engine ∧
    (enterDefer s).lap = s.lap ∧
    (enterDefer s).flags = s.flags ∧
    (enterDefer s).scanIndex = s.scanIndex ∧
    (enterDefer s).store = s.store ∧
    (enterDefer s).tickDraws = s.tickDraws ∧
    (enterDefer s).pending = s.pending := by
  unfold enterDefer; split <;> simp

@[simp] theorem startAccess_frame (s : State) :
    (startAccess s).phase = s.phase ∧
    (startAccess s).settings = s.settings ∧
    (startAccess s).rxv = s.rxv ∧
    (startAccess s).cbsy = s.cbsy ∧
    (startAccess s).receive = s.receive ∧
    (startAccess s).scheduler = s.scheduler ∧
    (startAccess s).control = s.control ∧
    (startAccess s).peers = s.peers ∧
    (startAccess s).sidetone = s.sidetone ∧
    (startAccess s).engine = s.engine ∧
    (startAccess s).lap = s.lap ∧
    (startAccess s).flags = s.flags ∧
    (startAccess s).scanIndex = s.scanIndex ∧
    (startAccess s).store = s.store ∧
    (startAccess s).tickDraws = s.tickDraws ∧
    (startAccess s).pending = s.pending := by
  unfold startAccess; split <;> simp

@[simp] theorem abandonIfEmpty_frame (s : State) :
    (abandonIfEmpty s).phase = s.phase ∧
    (abandonIfEmpty s).settings = s.settings ∧
    (abandonIfEmpty s).rxv = s.rxv ∧
    (abandonIfEmpty s).cbsy = s.cbsy ∧
    (abandonIfEmpty s).receive = s.receive ∧
    (abandonIfEmpty s).scheduler = s.scheduler ∧
    (abandonIfEmpty s).control = s.control ∧
    (abandonIfEmpty s).peers = s.peers ∧
    (abandonIfEmpty s).sidetone = s.sidetone ∧
    (abandonIfEmpty s).engine = s.engine ∧
    (abandonIfEmpty s).lap = s.lap ∧
    (abandonIfEmpty s).flags = s.flags ∧
    (abandonIfEmpty s).scanIndex = s.scanIndex ∧
    (abandonIfEmpty s).store = s.store ∧
    (abandonIfEmpty s).tickDraws = s.tickDraws ∧
    (abandonIfEmpty s).pending = s.pending := by
  unfold abandonIfEmpty; split <;> simp

@[simp] theorem placeAudio_frame (f : AudioFrame) (s : State) :
    (placeAudio f s).phase = s.phase ∧
    (placeAudio f s).settings = s.settings ∧
    (placeAudio f s).rxv = s.rxv ∧
    (placeAudio f s).cbsy = s.cbsy ∧
    (placeAudio f s).receive = s.receive ∧
    (placeAudio f s).control = s.control ∧
    (placeAudio f s).peers = s.peers ∧
    (placeAudio f s).sidetone = s.sidetone ∧
    (placeAudio f s).engine = s.engine ∧
    (placeAudio f s).lap = s.lap ∧
    (placeAudio f s).scanIndex = s.scanIndex ∧
    (placeAudio f s).store = s.store ∧
    (placeAudio f s).tickDraws = s.tickDraws ∧
    (placeAudio f s).pending = s.pending := by
  simp [placeAudio]

@[simp] theorem placePresence_frame (s : State) :
    (placePresence s).phase = s.phase ∧
    (placePresence s).settings = s.settings ∧
    (placePresence s).rxv = s.rxv ∧
    (placePresence s).cbsy = s.cbsy ∧
    (placePresence s).receive = s.receive ∧
    (placePresence s).control = s.control ∧
    (placePresence s).peers = s.peers ∧
    (placePresence s).sidetone = s.sidetone ∧
    (placePresence s).engine = s.engine ∧
    (placePresence s).lap = s.lap ∧
    (placePresence s).flags = s.flags ∧
    (placePresence s).scanIndex = s.scanIndex ∧
    (placePresence s).store = s.store ∧
    (placePresence s).tickDraws = s.tickDraws ∧
    (placePresence s).pending = s.pending := by
  simp [placePresence]

@[simp] theorem placeOffer_frame (s : State) :
    (placeOffer s).phase = s.phase ∧
    (placeOffer s).settings = s.settings ∧
    (placeOffer s).rxv = s.rxv ∧
    (placeOffer s).cbsy = s.cbsy ∧
    (placeOffer s).receive = s.receive ∧
    (placeOffer s).control = s.control ∧
    (placeOffer s).peers = s.peers ∧
    (placeOffer s).sidetone = s.sidetone ∧
    (placeOffer s).engine = s.engine ∧
    (placeOffer s).lap = s.lap ∧
    (placeOffer s).flags = s.flags ∧
    (placeOffer s).scanIndex = s.scanIndex ∧
    (placeOffer s).store = s.store ∧
    (placeOffer s).tickDraws = s.tickDraws ∧
    (placeOffer s).pending = s.pending := by
  unfold placeOffer; split <;> simp

@[simp] theorem discardOffer_frame (s : State) :
    (discardOffer s).phase = s.phase ∧
    (discardOffer s).settings = s.settings ∧
    (discardOffer s).rxv = s.rxv ∧
    (discardOffer s).cbsy = s.cbsy ∧
    (discardOffer s).receive = s.receive ∧
    (discardOffer s).control = s.control ∧
    (discardOffer s).peers = s.peers ∧
    (discardOffer s).sidetone = s.sidetone ∧
    (discardOffer s).engine = s.engine ∧
    (discardOffer s).lap = s.lap ∧
    (discardOffer s).flags = s.flags ∧
    (discardOffer s).scanIndex = s.scanIndex ∧
    (discardOffer s).store = s.store ∧
    (discardOffer s).tickDraws = s.tickDraws ∧
    (discardOffer s).pending = s.pending := by
  unfold discardOffer; split <;> simp

@[simp] theorem emptyPositions_frame (s : State) :
    (emptyPositions s).phase = s.phase ∧
    (emptyPositions s).settings = s.settings ∧
    (emptyPositions s).rxv = s.rxv ∧
    (emptyPositions s).cbsy = s.cbsy ∧
    (emptyPositions s).receive = s.receive ∧
    (emptyPositions s).control = s.control ∧
    (emptyPositions s).peers = s.peers ∧
    (emptyPositions s).sidetone = s.sidetone ∧
    (emptyPositions s).engine = s.engine ∧
    (emptyPositions s).lap = s.lap ∧
    (emptyPositions s).flags = s.flags ∧
    (emptyPositions s).scanIndex = s.scanIndex ∧
    (emptyPositions s).store = s.store ∧
    (emptyPositions s).tickDraws = s.tickDraws ∧
    (emptyPositions s).pending = s.pending := by
  simp [emptyPositions]

@[simp] theorem zeroAnnounceCounts_frame (s : State) :
    (zeroAnnounceCounts s).phase = s.phase ∧
    (zeroAnnounceCounts s).settings = s.settings ∧
    (zeroAnnounceCounts s).rxv = s.rxv ∧
    (zeroAnnounceCounts s).cbsy = s.cbsy ∧
    (zeroAnnounceCounts s).receive = s.receive ∧
    (zeroAnnounceCounts s).transmit = s.transmit ∧
    (zeroAnnounceCounts s).control = s.control ∧
    (zeroAnnounceCounts s).peers = s.peers ∧
    (zeroAnnounceCounts s).sidetone = s.sidetone ∧
    (zeroAnnounceCounts s).engine = s.engine ∧
    (zeroAnnounceCounts s).lap = s.lap ∧
    (zeroAnnounceCounts s).flags = s.flags ∧
    (zeroAnnounceCounts s).scanIndex = s.scanIndex ∧
    (zeroAnnounceCounts s).store = s.store ∧
    (zeroAnnounceCounts s).tickDraws = s.tickDraws ∧
    (zeroAnnounceCounts s).pending = s.pending := by
  simp [zeroAnnounceCounts]

@[simp] theorem enterActive_frame (n : Station) (s : State) :
    (enterActive n s).phase = s.phase ∧
    (enterActive n s).settings = s.settings ∧
    (enterActive n s).rxv = s.rxv ∧
    (enterActive n s).cbsy = s.cbsy ∧
    (enterActive n s).receive = s.receive ∧
    (enterActive n s).peers = s.peers ∧
    (enterActive n s).sidetone = s.sidetone ∧
    (enterActive n s).engine = s.engine ∧
    (enterActive n s).lap = s.lap ∧
    (enterActive n s).flags = s.flags ∧
    (enterActive n s).scanIndex = s.scanIndex ∧
    (enterActive n s).store = s.store ∧
    (enterActive n s).tickDraws = s.tickDraws ∧
    (enterActive n s).pending = s.pending := by
  simp [enterActive]

@[simp] theorem enterClashed_frame (s : State) :
    (enterClashed s).phase = s.phase ∧
    (enterClashed s).settings = s.settings ∧
    (enterClashed s).rxv = s.rxv ∧
    (enterClashed s).cbsy = s.cbsy ∧
    (enterClashed s).receive = s.receive ∧
    (enterClashed s).peers = s.peers ∧
    (enterClashed s).sidetone = s.sidetone ∧
    (enterClashed s).engine = s.engine ∧
    (enterClashed s).lap = s.lap ∧
    (enterClashed s).scanIndex = s.scanIndex ∧
    (enterClashed s).store = s.store ∧
    (enterClashed s).tickDraws = s.tickDraws ∧
    (enterClashed s).pending = s.pending := by
  simp [enterClashed]

@[simp] theorem enterListenOnly_frame (s : State) :
    (enterListenOnly s).phase = s.phase ∧
    (enterListenOnly s).settings = s.settings ∧
    (enterListenOnly s).rxv = s.rxv ∧
    (enterListenOnly s).cbsy = s.cbsy ∧
    (enterListenOnly s).receive = s.receive ∧
    (enterListenOnly s).sidetone = s.sidetone ∧
    (enterListenOnly s).engine = s.engine ∧
    (enterListenOnly s).lap = s.lap ∧
    (enterListenOnly s).scanIndex = s.scanIndex ∧
    (enterListenOnly s).store = s.store ∧
    (enterListenOnly s).tickDraws = s.tickDraws ∧
    (enterListenOnly s).pending = s.pending := by
  simp [enterListenOnly]

@[simp] theorem enterStarting_frame (tag : Tag) (s : State) :
    (enterStarting tag s).phase = s.phase ∧
    (enterStarting tag s).settings = s.settings ∧
    (enterStarting tag s).rxv = s.rxv ∧
    (enterStarting tag s).cbsy = s.cbsy ∧
    (enterStarting tag s).receive = s.receive ∧
    (enterStarting tag s).peers = s.peers ∧
    (enterStarting tag s).sidetone = s.sidetone ∧
    (enterStarting tag s).engine = s.engine ∧
    (enterStarting tag s).lap = s.lap ∧
    (enterStarting tag s).flags = s.flags ∧
    (enterStarting tag s).scanIndex = s.scanIndex ∧
    (enterStarting tag s).store = s.store ∧
    (enterStarting tag s).tickDraws = s.tickDraws ∧
    (enterStarting tag s).pending = s.pending := by
  simp [enterStarting]

@[simp] theorem queueTagWrite_frame (v : Tag) (s : State) :
    (queueTagWrite v s).phase = s.phase ∧
    (queueTagWrite v s).settings = s.settings ∧
    (queueTagWrite v s).rxv = s.rxv ∧
    (queueTagWrite v s).cbsy = s.cbsy ∧
    (queueTagWrite v s).receive = s.receive ∧
    (queueTagWrite v s).transmit = s.transmit ∧
    (queueTagWrite v s).scheduler = s.scheduler ∧
    (queueTagWrite v s).control = s.control ∧
    (queueTagWrite v s).peers = s.peers ∧
    (queueTagWrite v s).sidetone = s.sidetone ∧
    (queueTagWrite v s).engine = s.engine ∧
    (queueTagWrite v s).lap = s.lap ∧
    (queueTagWrite v s).flags = s.flags ∧
    (queueTagWrite v s).scanIndex = s.scanIndex ∧
    (queueTagWrite v s).tickDraws = s.tickDraws ∧
    (queueTagWrite v s).pending = s.pending := by
  simp [queueTagWrite]

@[simp] theorem joinGroup_frame (tag : Tag) (s : State) :
    (joinGroup tag s).phase = s.phase ∧
    (joinGroup tag s).settings = s.settings ∧
    (joinGroup tag s).rxv = s.rxv ∧
    (joinGroup tag s).cbsy = s.cbsy ∧
    (joinGroup tag s).receive = s.receive ∧
    (joinGroup tag s).peers = s.peers ∧
    (joinGroup tag s).sidetone = s.sidetone ∧
    (joinGroup tag s).engine = s.engine ∧
    (joinGroup tag s).lap = s.lap ∧
    (joinGroup tag s).scanIndex = s.scanIndex ∧
    (joinGroup tag s).tickDraws = s.tickDraws ∧
    (joinGroup tag s).pending = s.pending := by
  simp [joinGroup]

@[simp] theorem closePairing_frame (s : State) :
    (closePairing s).phase = s.phase ∧
    (closePairing s).settings = s.settings ∧
    (closePairing s).rxv = s.rxv ∧
    (closePairing s).cbsy = s.cbsy ∧
    (closePairing s).receive = s.receive ∧
    (closePairing s).peers = s.peers ∧
    (closePairing s).sidetone = s.sidetone ∧
    (closePairing s).engine = s.engine ∧
    (closePairing s).lap = s.lap ∧
    (closePairing s).flags = s.flags ∧
    (closePairing s).scanIndex = s.scanIndex ∧
    (closePairing s).store = s.store ∧
    (closePairing s).tickDraws = s.tickDraws ∧
    (closePairing s).pending = s.pending := by
  simp [closePairing]

@[simp] theorem forget_frame (s : State) :
    (forget s).phase = s.phase ∧
    (forget s).settings = s.settings ∧
    (forget s).rxv = s.rxv ∧
    (forget s).cbsy = s.cbsy ∧
    (forget s).receive = s.receive ∧
    (forget s).sidetone = s.sidetone ∧
    (forget s).engine = s.engine ∧
    (forget s).lap = s.lap ∧
    (forget s).flags = s.flags ∧
    (forget s).scanIndex = s.scanIndex ∧
    (forget s).tickDraws = s.tickDraws ∧
    (forget s).pending = s.pending := by
  unfold forget; split <;> simp

@[simp] theorem openPairing_frame (s : State) :
    (openPairing s).phase = s.phase ∧
    (openPairing s).settings = s.settings ∧
    (openPairing s).rxv = s.rxv ∧
    (openPairing s).cbsy = s.cbsy ∧
    (openPairing s).receive = s.receive ∧
    (openPairing s).peers = s.peers ∧
    (openPairing s).sidetone = s.sidetone ∧
    (openPairing s).engine = s.engine ∧
    (openPairing s).lap = s.lap ∧
    (openPairing s).scanIndex = s.scanIndex ∧
    (openPairing s).tickDraws = s.tickDraws ∧
    (openPairing s).pending = s.pending := by
  unfold openPairing; split <;> simp
/-! ## Flags and peers -/

@[simp] theorem setFlag_flags (f : Flag) (s : State) : (setFlag f s).flags = withFlag s.flags f := rfl

@[simp] theorem clearFlags_flags (s : State) : (clearFlags s).flags = Flags.clear := rfl

theorem setFlagIf_flags (c : Bool) (f : Flag) (s : State) :
    (setFlagIf c f s).flags = if c then withFlag s.flags f else s.flags := by
  cases c <;> rfl

/-- Setting a flag sets that one and leaves the others (R168). -/
theorem hasFlag_withFlag (fl : Flags) (f g : Flag) : hasFlag (withFlag fl f) g = (hasFlag fl g || g == f) := by
  cases f <;> cases g <;> simp [withFlag, hasFlag]

theorem hasFlag_setFlag_of_hasFlag {f g : Flag} {s : State} (h : hasFlag s.flags g = true) :
    hasFlag (setFlag f s).flags g = true := by
  simp [hasFlag_withFlag, h]

theorem hasFlag_setFlagIf_of_hasFlag {c : Bool} {f g : Flag} {s : State} (h : hasFlag s.flags g = true) :
    hasFlag (setFlagIf c f s).flags g = true := by
  cases c <;> simp [setFlagIf, hasFlag_withFlag, h]

@[simp] theorem setPeer_peers (k : Station) (p : Peer) (s : State) : (setPeer k p s).peers = s.peers.set k p := rfl

@[simp] theorem peerAt_setPeer_self (k : Station) (p : Peer) (s : State) : peerAt (setPeer k p s) k = p := by
  simp [peerAt, setPeer]

theorem peerAt_setPeer_ne {j k : Station} (h : j ≠ k) (p : Peer) (s : State) :
    peerAt (setPeer k p s) j = peerAt s j := by
  have : (k : Nat) ≠ j := fun e => h (Fin.ext e.symm)
  simp [peerAt, setPeer, this]

/-- Replacing one peer, read at any number. -/
theorem peerAt_setPeer (j k : Station) (p : Peer) (s : State) :
    peerAt (setPeer k p s) j = if j = k then p else peerAt s j := by
  by_cases h : j = k
  · subst h; simp
  · simp [h, peerAt_setPeer_ne h]

/-- Changing one peer, read at any number. -/
theorem peerAt_updatePeer (j k : Station) (f : Peer → Peer) (s : State) :
    peerAt (updatePeer k f s) j = if j = k then f (peerAt s k) else peerAt s j := by
  simp [updatePeer, peerAt_setPeer]

@[simp] theorem peerAt_mapPeers (f : Peer → Peer) (s : State) (k : Station) :
    peerAt (mapPeers f s) k = f (peerAt s k) := by
  simp [peerAt, mapPeers]

/-- Two states with the same peers have the same peer at a number. -/
theorem peerAt_congr {s t : State} (h : t.peers = s.peers) (k : Station) : peerAt t k = peerAt s k := by
  simp [peerAt, h]

@[simp] theorem peerAt_setFlag (f : Flag) (s : State) (k : Station) : peerAt (setFlag f s) k = peerAt s k := rfl

@[simp] theorem peerAt_setFlagIf (c : Bool) (f : Flag) (s : State) (k : Station) :
    peerAt (setFlagIf c f s) k = peerAt s k := peerAt_congr (by simp) k

/-! ## Channel access -/

/-- What entry to DEFER gives: DEFER while CBSY is high, else GAP with the full gap (R31). -/
theorem enterDefer_transmit (s : State) :
    (enterDefer s).transmit =
      if s.cbsy then { s.transmit with state := .defer, gapTimer := none }
      else { s.transmit with state := .gap, gapTimer := some (gapLength s.control.number) } := by
  unfold enterDefer; split <;> rfl

/-- What placing a frame does to the transmit side: an access starts from IDLE alone (R31). -/
theorem startAccess_transmit (s : State) :
    (startAccess s).transmit = if s.transmit.state = .idle then (enterDefer s).transmit else s.transmit := by
  unfold startAccess; split <;> simp_all

/-- What emptying the positions does to the transmit side (R31, R34). -/
theorem abandonIfEmpty_transmit (s : State) :
    (abandonIfEmpty s).transmit =
      if accessing s.transmit.state = true ∧ framePending s = false then
        { s.transmit with state := .idle, gapTimer := none }
      else s.transmit := by
  unfold abandonIfEmpty
  by_cases h : accessing s.transmit.state = true <;> by_cases g : framePending s = true <;> simp [h, g]

/-! ## The Scheduler's fields -/

@[simp] theorem placeAudio_scheduler (f : AudioFrame) (s : State) :
    (placeAudio f s).scheduler = { s.scheduler with audio := some f } := by
  simp [placeAudio]

@[simp] theorem placeAudio_flags (f : AudioFrame) (s : State) :
    (placeAudio f s).flags = if isVoice s.scheduler.audio then withFlag s.flags .superseded else s.flags := by
  simp [placeAudio, setFlagIf_flags]

@[simp] theorem isVoice_withoutVoice (f : Option AudioFrame) : isVoice (withoutVoice f) = false := by
  unfold withoutVoice; split
  · rfl
  · exact Bool.eq_false_iff.2 ‹_›

@[simp] theorem placePresence_scheduler (s : State) :
    (placePresence s).scheduler = { s.scheduler with announce := some .presence } := by
  simp [placePresence]

/-- An OFFER takes the announce position unless a PRESENCE is pending (R26). -/
theorem placeOffer_scheduler (s : State) :
    (placeOffer s).scheduler =
      { s.scheduler with announce := if s.scheduler.announce = some .presence then some .presence else some .offer } := by
  obtain ⟨sc, h⟩ : ∃ sc, sc = s.scheduler := ⟨_, rfl⟩
  obtain ⟨q, hb, au, an, pc, oc⟩ := sc
  unfold placeOffer
  rw [← h]
  cases an with
  | none => simp
  | some a => cases a <;> simp [← h]

/-- A pending OFFER goes and a PRESENCE stays (R29). -/
theorem discardOffer_scheduler (s : State) :
    (discardOffer s).scheduler =
      { s.scheduler with announce := if s.scheduler.announce = some .offer then none else s.scheduler.announce } := by
  unfold discardOffer
  cases h : s.scheduler.announce with
  | none => simp; cases hs : s.scheduler; simp_all
  | some a =>
    cases a with
    | presence => simp; cases hs : s.scheduler; simp_all
    | offer => simp

@[simp] theorem emptyPositions_scheduler (s : State) :
    (emptyPositions s).scheduler = { s.scheduler with audio := none, announce := none } := by
  simp [emptyPositions]

@[simp] theorem zeroAnnounceCounts_scheduler (s : State) :
    (zeroAnnounceCounts s).scheduler = { s.scheduler with presenceCount := 0, offerCount := 0 } := rfl

/-! ## Changes of self state -/

@[simp] theorem enterActive_control (n : Station) (s : State) :
    (enterActive n s).control =
      { s.control with selfState := .active, number := some n, startTimer := none, clashWait := none, retryCount := none } := by
  simp [enterActive]

@[simp] theorem enterActive_scheduler (n : Station) (s : State) :
    (enterActive n s).scheduler =
      { s.scheduler with announce := some .presence, presenceCount := 0, offerCount := 0 } := by
  simp [enterActive]

@[simp] theorem enterClashed_control (s : State) :
    (enterClashed s).control = { s.control with selfState := .clashed, clashWait := some 0 } := by
  simp [enterClashed]

@[simp] theorem enterClashed_scheduler (s : State) :
    (enterClashed s).scheduler =
      { s.scheduler with audio := withoutVoice s.scheduler.audio, announce := some .presence, offerCount := 0 } := by
  simp [enterClashed]

@[simp] theorem enterClashed_flags (s : State) : (enterClashed s).flags = withFlag s.flags .clash := by
  simp [enterClashed]

@[simp] theorem enterListenOnly_control (s : State) :
    (enterListenOnly s).control =
      { s.control with
          selfState := .listenOnly, number := none, startTimer := none, clashWait := none, retryCount := some 0 } := by
  simp [enterListenOnly]

@[simp] theorem enterListenOnly_scheduler (s : State) :
    (enterListenOnly s).scheduler =
      { s.scheduler with audio := none, announce := none, presenceCount := 0, offerCount := 0 } := by
  simp [enterListenOnly]

@[simp] theorem enterListenOnly_flags (s : State) : (enterListenOnly s).flags = withFlag s.flags .full := by
  simp [enterListenOnly]

@[simp] theorem enterStarting_control (tag : Tag) (s : State) :
    (enterStarting tag s).control =
      { s.control with
          selfState := .starting, number := none, tag := tag, startTimer := some 0, clashWait := none
          retryCount := none } := by
  simp [enterStarting]

@[simp] theorem enterStarting_scheduler (tag : Tag) (s : State) :
    (enterStarting tag s).scheduler =
      { s.scheduler with audio := none, announce := none, presenceCount := 0, offerCount := 0 } := by
  simp [enterStarting]

@[simp] theorem queueTagWrite_store (v : Tag) (s : State) :
    (queueTagWrite v s).store = { s.store with writeQueue := some v } := rfl

@[simp] theorem joinGroup_control (tag : Tag) (s : State) :
    (joinGroup tag s).control =
      { s.control with
          selfState := .starting, number := none, tag := tag, startTimer := some 0, clashWait := none
          retryCount := none } := by
  simp [joinGroup]

@[simp] theorem joinGroup_flags (tag : Tag) (s : State) : (joinGroup tag s).flags = withFlag s.flags .paired := by
  simp [joinGroup]

@[simp] theorem joinGroup_store (tag : Tag) (s : State) :
    (joinGroup tag s).store = { s.store with writeQueue := some tag } := by
  simp [joinGroup]

@[simp] theorem closePairing_control (s : State) : (closePairing s).control = { s.control with window := none } := by
  simp [closePairing]

@[simp] theorem forget_control (s : State) : (forget s).control = StationControl.powerOn s.control.unitId := by
  simp [forget]

@[simp] theorem peerAt_forget (s : State) (k : Station) : peerAt (forget s) k = forgetPeer (peerAt s k) := by
  unfold forget
  simp only [peerAt_mapPeers]
  split <;> simp [peerAt]

end Sys2Proof.Machine
end

