-- ==== Sys2Proof/Laws/Frames.lean ====
section
/-! SUPPORT. What each part of an event leaves alone: the frames of the operations that the meanings
are made of, for the simp set. -/

namespace Sys2Proof.Machine

@[simp] theorem migrationTest_frame (f : AirFrame) (s : State) :
    (migrationTest f s).phase = s.phase ∧
    (migrationTest f s).settings = s.settings ∧
    (migrationTest f s).rxv = s.rxv ∧
    (migrationTest f s).cbsy = s.cbsy ∧
    (migrationTest f s).receive = s.receive ∧
    (migrationTest f s).transmit = s.transmit ∧
    (migrationTest f s).scheduler = s.scheduler ∧
    (migrationTest f s).control = s.control ∧
    (migrationTest f s).sidetone = s.sidetone ∧
    (migrationTest f s).engine = s.engine ∧
    (migrationTest f s).lap = s.lap ∧
    (migrationTest f s).flags = s.flags ∧
    (migrationTest f s).scanIndex = s.scanIndex ∧
    (migrationTest f s).store = s.store ∧
    (migrationTest f s).tickDraws = s.tickDraws ∧
    (migrationTest f s).pending = s.pending := by
  unfold migrationTest; split <;> (try split) <;> simp

@[simp] theorem refuseFrame_frame (m : Station) (s : State) :
    (refuseFrame m s).phase = s.phase ∧
    (refuseFrame m s).settings = s.settings ∧
    (refuseFrame m s).rxv = s.rxv ∧
    (refuseFrame m s).cbsy = s.cbsy ∧
    (refuseFrame m s).receive = s.receive ∧
    (refuseFrame m s).transmit = s.transmit ∧
    (refuseFrame m s).scheduler = s.scheduler ∧
    (refuseFrame m s).control = s.control ∧
    (refuseFrame m s).sidetone = s.sidetone ∧
    (refuseFrame m s).engine = s.engine ∧
    (refuseFrame m s).lap = s.lap ∧
    (refuseFrame m s).scanIndex = s.scanIndex ∧
    (refuseFrame m s).store = s.store ∧
    (refuseFrame m s).tickDraws = s.tickDraws ∧
    (refuseFrame m s).pending = s.pending := by
  simp [refuseFrame]

@[simp] theorem acceptFrame_frame (f : AirFrame) (s : State) :
    (acceptFrame f s).phase = s.phase ∧
    (acceptFrame f s).settings = s.settings ∧
    (acceptFrame f s).rxv = s.rxv ∧
    (acceptFrame f s).cbsy = s.cbsy ∧
    (acceptFrame f s).receive = s.receive ∧
    (acceptFrame f s).transmit = s.transmit ∧
    (acceptFrame f s).scheduler = s.scheduler ∧
    (acceptFrame f s).control = s.control ∧
    (acceptFrame f s).sidetone = s.sidetone ∧
    (acceptFrame f s).engine = s.engine ∧
    (acceptFrame f s).lap = s.lap ∧
    (acceptFrame f s).scanIndex = s.scanIndex ∧
    (acceptFrame f s).store = s.store ∧
    (acceptFrame f s).tickDraws = s.tickDraws ∧
    (acceptFrame f s).pending = s.pending := by
  unfold acceptFrame; simp only []; split <;> simp

@[simp] theorem tableTick_frame (s : State) :
    (tableTick s).phase = s.phase ∧
    (tableTick s).settings = s.settings ∧
    (tableTick s).rxv = s.rxv ∧
    (tableTick s).cbsy = s.cbsy ∧
    (tableTick s).receive = s.receive ∧
    (tableTick s).transmit = s.transmit ∧
    (tableTick s).scheduler = s.scheduler ∧
    (tableTick s).control = s.control ∧
    (tableTick s).sidetone = s.sidetone ∧
    (tableTick s).engine = s.engine ∧
    (tableTick s).lap = s.lap ∧
    (tableTick s).scanIndex = s.scanIndex ∧
    (tableTick s).store = s.store ∧
    (tableTick s).tickDraws = s.tickDraws ∧
    (tableTick s).pending = s.pending := by
  simp [tableTick]

@[simp] theorem dropHeld_frame (s : State) :
    (dropHeld s).phase = s.phase ∧
    (dropHeld s).settings = s.settings ∧
    (dropHeld s).rxv = s.rxv ∧
    (dropHeld s).cbsy = s.cbsy ∧
    (dropHeld s).receive = s.receive ∧
    (dropHeld s).transmit = s.transmit ∧
    (dropHeld s).control = s.control ∧
    (dropHeld s).peers = s.peers ∧
    (dropHeld s).sidetone = s.sidetone ∧
    (dropHeld s).engine = s.engine ∧
    (dropHeld s).lap = s.lap ∧
    (dropHeld s).flags = s.flags ∧
    (dropHeld s).scanIndex = s.scanIndex ∧
    (dropHeld s).store = s.store ∧
    (dropHeld s).tickDraws = s.tickDraws ∧
    (dropHeld s).pending = s.pending := by
  simp [dropHeld]

@[simp] theorem pacedActive_frame (s : State) :
    (pacedActive s).phase = s.phase ∧
    (pacedActive s).settings = s.settings ∧
    (pacedActive s).rxv = s.rxv ∧
    (pacedActive s).cbsy = s.cbsy ∧
    (pacedActive s).receive = s.receive ∧
    (pacedActive s).control = s.control ∧
    (pacedActive s).peers = s.peers ∧
    (pacedActive s).sidetone = s.sidetone ∧
    (pacedActive s).engine = s.engine ∧
    (pacedActive s).lap = s.lap ∧
    (pacedActive s).scanIndex = s.scanIndex ∧
    (pacedActive s).store = s.store ∧
    (pacedActive s).tickDraws = s.tickDraws ∧
    (pacedActive s).pending = s.pending := by
  unfold pacedActive; split <;> (try split) <;> simp

@[simp] theorem pacedClashed_frame (s : State) :
    (pacedClashed s).phase = s.phase ∧
    (pacedClashed s).settings = s.settings ∧
    (pacedClashed s).rxv = s.rxv ∧
    (pacedClashed s).cbsy = s.cbsy ∧
    (pacedClashed s).receive = s.receive ∧
    (pacedClashed s).control = s.control ∧
    (pacedClashed s).peers = s.peers ∧
    (pacedClashed s).sidetone = s.sidetone ∧
    (pacedClashed s).engine = s.engine ∧
    (pacedClashed s).lap = s.lap ∧
    (pacedClashed s).scanIndex = s.scanIndex ∧
    (pacedClashed s).store = s.store ∧
    (pacedClashed s).tickDraws = s.tickDraws ∧
    (pacedClashed s).pending = s.pending := by
  unfold pacedClashed; split <;> (try split) <;> simp

@[simp] theorem pacedTransmit_frame (s : State) :
    (pacedTransmit s).phase = s.phase ∧
    (pacedTransmit s).settings = s.settings ∧
    (pacedTransmit s).rxv = s.rxv ∧
    (pacedTransmit s).cbsy = s.cbsy ∧
    (pacedTransmit s).receive = s.receive ∧
    (pacedTransmit s).control = s.control ∧
    (pacedTransmit s).peers = s.peers ∧
    (pacedTransmit s).sidetone = s.sidetone ∧
    (pacedTransmit s).engine = s.engine ∧
    (pacedTransmit s).lap = s.lap ∧
    (pacedTransmit s).scanIndex = s.scanIndex ∧
    (pacedTransmit s).store = s.store ∧
    (pacedTransmit s).tickDraws = s.tickDraws ∧
    (pacedTransmit s).pending = s.pending := by
  unfold pacedTransmit; split <;> simp

@[simp] theorem onDataTransmit_frame (b : HeldBlock) (s : State) :
    (onDataTransmit b s).phase = s.phase ∧
    (onDataTransmit b s).settings = s.settings ∧
    (onDataTransmit b s).rxv = s.rxv ∧
    (onDataTransmit b s).cbsy = s.cbsy ∧
    (onDataTransmit b s).receive = s.receive ∧
    (onDataTransmit b s).control = s.control ∧
    (onDataTransmit b s).peers = s.peers ∧
    (onDataTransmit b s).sidetone = s.sidetone ∧
    (onDataTransmit b s).engine = s.engine ∧
    (onDataTransmit b s).lap = s.lap ∧
    (onDataTransmit b s).scanIndex = s.scanIndex ∧
    (onDataTransmit b s).store = s.store ∧
    (onDataTransmit b s).tickDraws = s.tickDraws ∧
    (onDataTransmit b s).pending = s.pending := by
  unfold onDataTransmit; split <;> simp

@[simp] theorem holdBlock_frame (b : HeldBlock) (s : State) :
    (holdBlock b s).phase = s.phase ∧
    (holdBlock b s).settings = s.settings ∧
    (holdBlock b s).rxv = s.rxv ∧
    (holdBlock b s).cbsy = s.cbsy ∧
    (holdBlock b s).receive = s.receive ∧
    (holdBlock b s).transmit = s.transmit ∧
    (holdBlock b s).control = s.control ∧
    (holdBlock b s).peers = s.peers ∧
    (holdBlock b s).sidetone = s.sidetone ∧
    (holdBlock b s).engine = s.engine ∧
    (holdBlock b s).lap = s.lap ∧
    (holdBlock b s).scanIndex = s.scanIndex ∧
    (holdBlock b s).store = s.store ∧
    (holdBlock b s).tickDraws = s.tickDraws ∧
    (holdBlock b s).pending = s.pending := by
  unfold holdBlock; split <;> simp

@[simp] theorem captureHandover_frame (b : Block) (s : State) :
    (captureHandover b s).phase = s.phase ∧
    (captureHandover b s).settings = s.settings ∧
    (captureHandover b s).rxv = s.rxv ∧
    (captureHandover b s).cbsy = s.cbsy ∧
    (captureHandover b s).receive = s.receive ∧
    (captureHandover b s).control = s.control ∧
    (captureHandover b s).peers = s.peers ∧
    (captureHandover b s).sidetone = s.sidetone ∧
    (captureHandover b s).engine = s.engine ∧
    (captureHandover b s).lap = s.lap ∧
    (captureHandover b s).scanIndex = s.scanIndex ∧
    (captureHandover b s).store = s.store ∧
    (captureHandover b s).tickDraws = s.tickDraws ∧
    (captureHandover b s).pending = s.pending := by
  unfold captureHandover; simp only []; split <;> simp

@[simp] theorem presenceExpiry_frame (s : State) :
    (presenceExpiry s).phase = s.phase ∧
    (presenceExpiry s).settings = s.settings ∧
    (presenceExpiry s).rxv = s.rxv ∧
    (presenceExpiry s).cbsy = s.cbsy ∧
    (presenceExpiry s).receive = s.receive ∧
    (presenceExpiry s).control = s.control ∧
    (presenceExpiry s).peers = s.peers ∧
    (presenceExpiry s).sidetone = s.sidetone ∧
    (presenceExpiry s).engine = s.engine ∧
    (presenceExpiry s).lap = s.lap ∧
    (presenceExpiry s).flags = s.flags ∧
    (presenceExpiry s).scanIndex = s.scanIndex ∧
    (presenceExpiry s).store = s.store ∧
    (presenceExpiry s).tickDraws = s.tickDraws ∧
    (presenceExpiry s).pending = s.pending := by
  simp [presenceExpiry]

@[simp] theorem presenceTick_frame (s : State) :
    (presenceTick s).phase = s.phase ∧
    (presenceTick s).settings = s.settings ∧
    (presenceTick s).rxv = s.rxv ∧
    (presenceTick s).cbsy = s.cbsy ∧
    (presenceTick s).receive = s.receive ∧
    (presenceTick s).control = s.control ∧
    (presenceTick s).peers = s.peers ∧
    (presenceTick s).sidetone = s.sidetone ∧
    (presenceTick s).engine = s.engine ∧
    (presenceTick s).lap = s.lap ∧
    (presenceTick s).flags = s.flags ∧
    (presenceTick s).scanIndex = s.scanIndex ∧
    (presenceTick s).store = s.store ∧
    (presenceTick s).tickDraws = s.tickDraws ∧
    (presenceTick s).pending = s.pending := by
  unfold presenceTick; split <;> (try split) <;> simp

@[simp] theorem offerExpiry_frame (s : State) :
    (offerExpiry s).phase = s.phase ∧
    (offerExpiry s).settings = s.settings ∧
    (offerExpiry s).rxv = s.rxv ∧
    (offerExpiry s).cbsy = s.cbsy ∧
    (offerExpiry s).receive = s.receive ∧
    (offerExpiry s).control = s.control ∧
    (offerExpiry s).peers = s.peers ∧
    (offerExpiry s).sidetone = s.sidetone ∧
    (offerExpiry s).engine = s.engine ∧
    (offerExpiry s).lap = s.lap ∧
    (offerExpiry s).flags = s.flags ∧
    (offerExpiry s).scanIndex = s.scanIndex ∧
    (offerExpiry s).store = s.store ∧
    (offerExpiry s).tickDraws = s.tickDraws ∧
    (offerExpiry s).pending = s.pending := by
  simp [offerExpiry]

@[simp] theorem offerTick_frame (s : State) :
    (offerTick s).phase = s.phase ∧
    (offerTick s).settings = s.settings ∧
    (offerTick s).rxv = s.rxv ∧
    (offerTick s).cbsy = s.cbsy ∧
    (offerTick s).receive = s.receive ∧
    (offerTick s).control = s.control ∧
    (offerTick s).peers = s.peers ∧
    (offerTick s).sidetone = s.sidetone ∧
    (offerTick s).engine = s.engine ∧
    (offerTick s).lap = s.lap ∧
    (offerTick s).flags = s.flags ∧
    (offerTick s).scanIndex = s.scanIndex ∧
    (offerTick s).store = s.store ∧
    (offerTick s).tickDraws = s.tickDraws ∧
    (offerTick s).pending = s.pending := by
  unfold offerTick; split <;> (try split) <;> simp

@[simp] theorem sendBytes_frame (bytes : List Byte) (s : State) :
    (sendBytes bytes s).phase = s.phase ∧
    (sendBytes bytes s).settings = s.settings ∧
    (sendBytes bytes s).rxv = s.rxv ∧
    (sendBytes bytes s).cbsy = s.cbsy ∧
    (sendBytes bytes s).scheduler = s.scheduler ∧
    (sendBytes bytes s).control = s.control ∧
    (sendBytes bytes s).peers = s.peers ∧
    (sendBytes bytes s).sidetone = s.sidetone ∧
    (sendBytes bytes s).engine = s.engine ∧
    (sendBytes bytes s).lap = s.lap ∧
    (sendBytes bytes s).flags = s.flags ∧
    (sendBytes bytes s).scanIndex = s.scanIndex ∧
    (sendBytes bytes s).store = s.store ∧
    (sendBytes bytes s).tickDraws = s.tickDraws ∧
    (sendBytes bytes s).pending = s.pending := by
  simp [sendBytes]

@[simp] theorem sendChosen_frame (s : State) :
    (sendChosen s).phase = s.phase ∧
    (sendChosen s).settings = s.settings ∧
    (sendChosen s).rxv = s.rxv ∧
    (sendChosen s).cbsy = s.cbsy ∧
    (sendChosen s).control = s.control ∧
    (sendChosen s).peers = s.peers ∧
    (sendChosen s).sidetone = s.sidetone ∧
    (sendChosen s).engine = s.engine ∧
    (sendChosen s).lap = s.lap ∧
    (sendChosen s).flags = s.flags ∧
    (sendChosen s).scanIndex = s.scanIndex ∧
    (sendChosen s).store = s.store ∧
    (sendChosen s).tickDraws = s.tickDraws ∧
    (sendChosen s).pending = s.pending := by
  unfold sendChosen; split <;> simp

@[simp] theorem unblank_frame (s : State) :
    (unblank s).phase = s.phase ∧
    (unblank s).settings = s.settings ∧
    (unblank s).rxv = s.rxv ∧
    (unblank s).cbsy = s.cbsy ∧
    (unblank s).transmit = s.transmit ∧
    (unblank s).scheduler = s.scheduler ∧
    (unblank s).control = s.control ∧
    (unblank s).peers = s.peers ∧
    (unblank s).sidetone = s.sidetone ∧
    (unblank s).engine = s.engine ∧
    (unblank s).lap = s.lap ∧
    (unblank s).flags = s.flags ∧
    (unblank s).scanIndex = s.scanIndex ∧
    (unblank s).store = s.store ∧
    (unblank s).tickDraws = s.tickDraws ∧
    (unblank s).pending = s.pending := by
  unfold unblank; split <;> simp

@[simp] theorem listeningExpiry_frame (s : State) :
    (listeningExpiry s).phase = s.phase ∧
    (listeningExpiry s).settings = s.settings ∧
    (listeningExpiry s).rxv = s.rxv ∧
    (listeningExpiry s).cbsy = s.cbsy ∧
    (listeningExpiry s).receive = s.receive ∧
    (listeningExpiry s).sidetone = s.sidetone ∧
    (listeningExpiry s).engine = s.engine ∧
    (listeningExpiry s).lap = s.lap ∧
    (listeningExpiry s).scanIndex = s.scanIndex ∧
    (listeningExpiry s).store = s.store ∧
    (listeningExpiry s).tickDraws = s.tickDraws ∧
    (listeningExpiry s).pending = s.pending := by
  unfold listeningExpiry; split <;> simp

@[simp] theorem clashWaitExpires_frame (s : State) :
    (clashWaitExpires s).phase = s.phase ∧
    (clashWaitExpires s).settings = s.settings ∧
    (clashWaitExpires s).rxv = s.rxv ∧
    (clashWaitExpires s).cbsy = s.cbsy ∧
    (clashWaitExpires s).receive = s.receive ∧
    (clashWaitExpires s).peers = s.peers ∧
    (clashWaitExpires s).sidetone = s.sidetone ∧
    (clashWaitExpires s).engine = s.engine ∧
    (clashWaitExpires s).lap = s.lap ∧
    (clashWaitExpires s).flags = s.flags ∧
    (clashWaitExpires s).scanIndex = s.scanIndex ∧
    (clashWaitExpires s).store = s.store ∧
    (clashWaitExpires s).tickDraws = s.tickDraws ∧
    (clashWaitExpires s).pending = s.pending := by
  unfold clashWaitExpires; split <;> simp

@[simp] theorem retryChoice_frame (s : State) :
    (retryChoice s).phase = s.phase ∧
    (retryChoice s).settings = s.settings ∧
    (retryChoice s).rxv = s.rxv ∧
    (retryChoice s).cbsy = s.cbsy ∧
    (retryChoice s).receive = s.receive ∧
    (retryChoice s).sidetone = s.sidetone ∧
    (retryChoice s).engine = s.engine ∧
    (retryChoice s).lap = s.lap ∧
    (retryChoice s).flags = s.flags ∧
    (retryChoice s).scanIndex = s.scanIndex ∧
    (retryChoice s).store = s.store ∧
    (retryChoice s).tickDraws = s.tickDraws ∧
    (retryChoice s).pending = s.pending := by
  unfold retryChoice; split <;> simp

@[simp] theorem controlTick_frame (s : State) :
    (controlTick s).phase = s.phase ∧
    (controlTick s).settings = s.settings ∧
    (controlTick s).rxv = s.rxv ∧
    (controlTick s).cbsy = s.cbsy ∧
    (controlTick s).receive = s.receive ∧
    (controlTick s).sidetone = s.sidetone ∧
    (controlTick s).engine = s.engine ∧
    (controlTick s).lap = s.lap ∧
    (controlTick s).scanIndex = s.scanIndex ∧
    (controlTick s).store = s.store ∧
    (controlTick s).tickDraws = s.tickDraws ∧
    (controlTick s).pending = s.pending := by
  unfold controlTick; split <;> (try split) <;> simp

@[simp] theorem windowTick_frame (s : State) :
    (windowTick s).phase = s.phase ∧
    (windowTick s).settings = s.settings ∧
    (windowTick s).rxv = s.rxv ∧
    (windowTick s).cbsy = s.cbsy ∧
    (windowTick s).receive = s.receive ∧
    (windowTick s).peers = s.peers ∧
    (windowTick s).sidetone = s.sidetone ∧
    (windowTick s).engine = s.engine ∧
    (windowTick s).lap = s.lap ∧
    (windowTick s).flags = s.flags ∧
    (windowTick s).scanIndex = s.scanIndex ∧
    (windowTick s).store = s.store ∧
    (windowTick s).tickDraws = s.tickDraws ∧
    (windowTick s).pending = s.pending := by
  unfold windowTick; split <;> simp

@[simp] theorem settleClash_frame (u : UnitId) (s : State) :
    (settleClash u s).phase = s.phase ∧
    (settleClash u s).settings = s.settings ∧
    (settleClash u s).rxv = s.rxv ∧
    (settleClash u s).cbsy = s.cbsy ∧
    (settleClash u s).receive = s.receive ∧
    (settleClash u s).sidetone = s.sidetone ∧
    (settleClash u s).engine = s.engine ∧
    (settleClash u s).lap = s.lap ∧
    (settleClash u s).scanIndex = s.scanIndex ∧
    (settleClash u s).store = s.store ∧
    (settleClash u s).tickDraws = s.tickDraws ∧
    (settleClash u s).pending = s.pending := by
  unfold settleClash; split <;> (try split) <;> (try split) <;> simp

@[simp] theorem clashPath_frame (f : AirFrame) (s : State) :
    (clashPath f s).phase = s.phase ∧
    (clashPath f s).settings = s.settings ∧
    (clashPath f s).rxv = s.rxv ∧
    (clashPath f s).cbsy = s.cbsy ∧
    (clashPath f s).receive = s.receive ∧
    (clashPath f s).sidetone = s.sidetone ∧
    (clashPath f s).engine = s.engine ∧
    (clashPath f s).lap = s.lap ∧
    (clashPath f s).scanIndex = s.scanIndex ∧
    (clashPath f s).store = s.store ∧
    (clashPath f s).tickDraws = s.tickDraws ∧
    (clashPath f s).pending = s.pending := by
  unfold clashPath; split <;> (try split) <;> simp

@[simp] theorem adoptOffer_frame (f : AirFrame) (s : State) :
    (adoptOffer f s).phase = s.phase ∧
    (adoptOffer f s).settings = s.settings ∧
    (adoptOffer f s).rxv = s.rxv ∧
    (adoptOffer f s).cbsy = s.cbsy ∧
    (adoptOffer f s).receive = s.receive ∧
    (adoptOffer f s).peers = s.peers ∧
    (adoptOffer f s).sidetone = s.sidetone ∧
    (adoptOffer f s).engine = s.engine ∧
    (adoptOffer f s).lap = s.lap ∧
    (adoptOffer f s).scanIndex = s.scanIndex ∧
    (adoptOffer f s).tickDraws = s.tickDraws ∧
    (adoptOffer f s).pending = s.pending := by
  unfold adoptOffer; split <;> simp

@[simp] theorem startTagWrite_frame (s : State) :
    (startTagWrite s).phase = s.phase ∧
    (startTagWrite s).settings = s.settings ∧
    (startTagWrite s).rxv = s.rxv ∧
    (startTagWrite s).cbsy = s.cbsy ∧
    (startTagWrite s).receive = s.receive ∧
    (startTagWrite s).transmit = s.transmit ∧
    (startTagWrite s).scheduler = s.scheduler ∧
    (startTagWrite s).control = s.control ∧
    (startTagWrite s).peers = s.peers ∧
    (startTagWrite s).sidetone = s.sidetone ∧
    (startTagWrite s).engine = s.engine ∧
    (startTagWrite s).lap = s.lap ∧
    (startTagWrite s).flags = s.flags ∧
    (startTagWrite s).scanIndex = s.scanIndex ∧
    (startTagWrite s).tickDraws = s.tickDraws ∧
    (startTagWrite s).pending = s.pending := by
  unfold startTagWrite; split <;> simp

@[simp] theorem storeTick_frame (s : State) :
    (storeTick s).phase = s.phase ∧
    (storeTick s).settings = s.settings ∧
    (storeTick s).rxv = s.rxv ∧
    (storeTick s).cbsy = s.cbsy ∧
    (storeTick s).receive = s.receive ∧
    (storeTick s).transmit = s.transmit ∧
    (storeTick s).scheduler = s.scheduler ∧
    (storeTick s).control = s.control ∧
    (storeTick s).peers = s.peers ∧
    (storeTick s).sidetone = s.sidetone ∧
    (storeTick s).engine = s.engine ∧
    (storeTick s).lap = s.lap ∧
    (storeTick s).flags = s.flags ∧
    (storeTick s).scanIndex = s.scanIndex ∧
    (storeTick s).tickDraws = s.tickDraws ∧
    (storeTick s).pending = s.pending := by
  unfold storeTick; split <;> simp

@[simp] theorem airTickInOrder_frame (o : Bool) (s : State) :
    (airTickInOrder o s).phase = s.phase ∧
    (airTickInOrder o s).settings = s.settings ∧
    (airTickInOrder o s).rxv = s.rxv ∧
    (airTickInOrder o s).cbsy = s.cbsy ∧
    (airTickInOrder o s).receive = s.receive ∧
    (airTickInOrder o s).sidetone = s.sidetone ∧
    (airTickInOrder o s).engine = s.engine ∧
    (airTickInOrder o s).lap = s.lap ∧
    (airTickInOrder o s).scanIndex = s.scanIndex ∧
    (airTickInOrder o s).tickDraws = s.tickDraws ∧
    (airTickInOrder o s).pending = s.pending := by
  unfold airTickInOrder; cases o <;> simp

@[simp] theorem airTick_frame (s : State) :
    (airTick s).phase = s.phase ∧
    (airTick s).settings = s.settings ∧
    (airTick s).rxv = s.rxv ∧
    (airTick s).cbsy = s.cbsy ∧
    (airTick s).receive = s.receive ∧
    (airTick s).sidetone = s.sidetone ∧
    (airTick s).engine = s.engine ∧
    (airTick s).lap = s.lap ∧
    (airTick s).scanIndex = s.scanIndex ∧
    (airTick s).pending = s.pending := by
  simp [airTick]

@[simp] theorem dispatchFrame_frame (f : AirFrame) (s : State) :
    (dispatchFrame f s).phase = s.phase ∧
    (dispatchFrame f s).settings = s.settings ∧
    (dispatchFrame f s).rxv = s.rxv ∧
    (dispatchFrame f s).cbsy = s.cbsy ∧
    (dispatchFrame f s).receive = s.receive ∧
    (dispatchFrame f s).sidetone = s.sidetone ∧
    (dispatchFrame f s).engine = s.engine ∧
    (dispatchFrame f s).lap = s.lap ∧
    (dispatchFrame f s).scanIndex = s.scanIndex ∧
    (dispatchFrame f s).tickDraws = s.tickDraws ∧
    (dispatchFrame f s).pending = s.pending := by
  unfold dispatchFrame; split <;> (try split) <;> (try split) <;> simp

@[simp] theorem judgeFrame_frame (s : State) :
    (judgeFrame s).phase = s.phase ∧
    (judgeFrame s).settings = s.settings ∧
    (judgeFrame s).rxv = s.rxv ∧
    (judgeFrame s).cbsy = s.cbsy ∧
    (judgeFrame s).receive = s.receive ∧
    (judgeFrame s).sidetone = s.sidetone ∧
    (judgeFrame s).engine = s.engine ∧
    (judgeFrame s).lap = s.lap ∧
    (judgeFrame s).scanIndex = s.scanIndex ∧
    (judgeFrame s).tickDraws = s.tickDraws ∧
    (judgeFrame s).pending = s.pending := by
  unfold judgeFrame; split <;> (try split) <;> simp

@[simp] theorem takeWord_frame (w : BitVec 16) (s : State) :
    (takeWord w s).phase = s.phase ∧
    (takeWord w s).settings = s.settings ∧
    (takeWord w s).rxv = s.rxv ∧
    (takeWord w s).cbsy = s.cbsy ∧
    (takeWord w s).receive = s.receive ∧
    (takeWord w s).sidetone = s.sidetone ∧
    (takeWord w s).scanIndex = s.scanIndex ∧
    (takeWord w s).tickDraws = s.tickDraws ∧
    (takeWord w s).pending = s.pending := by
  unfold takeWord; simp only []; split <;> split <;> split <;> simp

@[simp] theorem takeControl_frame (w : Option (BitVec 16)) (s : State) :
    (takeControl w s).phase = s.phase ∧
    (takeControl w s).settings = s.settings ∧
    (takeControl w s).rxv = s.rxv ∧
    (takeControl w s).cbsy = s.cbsy ∧
    (takeControl w s).receive = s.receive ∧
    (takeControl w s).sidetone = s.sidetone ∧
    (takeControl w s).scanIndex = s.scanIndex ∧
    (takeControl w s).tickDraws = s.tickDraws ∧
    (takeControl w s).pending = s.pending := by
  unfold takeControl; split <;> (try split) <;> simp

@[simp] theorem afterTakes_frame (s : State) :
    (afterTakes s).phase = s.phase ∧
    (afterTakes s).settings = s.settings ∧
    (afterTakes s).rxv = s.rxv ∧
    (afterTakes s).cbsy = s.cbsy ∧
    (afterTakes s).receive = s.receive ∧
    (afterTakes s).transmit = s.transmit ∧
    (afterTakes s).scheduler = s.scheduler ∧
    (afterTakes s).control = s.control ∧
    (afterTakes s).engine = s.engine ∧
    (afterTakes s).lap = s.lap ∧
    (afterTakes s).scanIndex = s.scanIndex ∧
    (afterTakes s).store = s.store ∧
    (afterTakes s).tickDraws = s.tickDraws ∧
    (afterTakes s).pending = s.pending := by
  simp [afterTakes]

@[simp] theorem reportStatus_frame (s : State) :
    (reportStatus s).phase = s.phase ∧
    (reportStatus s).settings = s.settings ∧
    (reportStatus s).rxv = s.rxv ∧
    (reportStatus s).cbsy = s.cbsy ∧
    (reportStatus s).receive = s.receive ∧
    (reportStatus s).transmit = s.transmit ∧
    (reportStatus s).scheduler = s.scheduler ∧
    (reportStatus s).control = s.control ∧
    (reportStatus s).sidetone = s.sidetone ∧
    (reportStatus s).engine = s.engine ∧
    (reportStatus s).lap = s.lap ∧
    (reportStatus s).flags = s.flags ∧
    (reportStatus s).store = s.store ∧
    (reportStatus s).tickDraws = s.tickDraws ∧
    (reportStatus s).pending = s.pending := by
  unfold reportStatus; simp only []; split <;> simp

@[simp] theorem mixAndReport_frame (b : Block) (s : State) :
    (mixAndReport b s).phase = s.phase ∧
    (mixAndReport b s).settings = s.settings ∧
    (mixAndReport b s).rxv = s.rxv ∧
    (mixAndReport b s).cbsy = s.cbsy ∧
    (mixAndReport b s).receive = s.receive ∧
    (mixAndReport b s).transmit = s.transmit ∧
    (mixAndReport b s).scheduler = s.scheduler ∧
    (mixAndReport b s).control = s.control ∧
    (mixAndReport b s).store = s.store ∧
    (mixAndReport b s).tickDraws = s.tickDraws ∧
    (mixAndReport b s).pending = s.pending := by
  simp [mixAndReport]

@[simp] theorem blockEvent_frame (adi : List Bool) (s : State) :
    (blockEvent adi s).phase = s.phase ∧
    (blockEvent adi s).settings = s.settings ∧
    (blockEvent adi s).rxv = s.rxv ∧
    (blockEvent adi s).cbsy = s.cbsy ∧
    (blockEvent adi s).receive = s.receive ∧
    (blockEvent adi s).tickDraws = s.tickDraws ∧
    (blockEvent adi s).pending = s.pending := by
  simp [blockEvent]

@[simp] theorem lockPort_frame (s : State) :
    (lockPort s).phase = s.phase ∧
    (lockPort s).settings = s.settings ∧
    (lockPort s).rxv = s.rxv ∧
    (lockPort s).cbsy = s.cbsy ∧
    (lockPort s).receive = s.receive ∧
    (lockPort s).transmit = s.transmit ∧
    (lockPort s).scheduler = s.scheduler ∧
    (lockPort s).control = s.control ∧
    (lockPort s).sidetone = s.sidetone ∧
    (lockPort s).engine = s.engine ∧
    (lockPort s).flags = s.flags ∧
    (lockPort s).scanIndex = s.scanIndex ∧
    (lockPort s).store = s.store ∧
    (lockPort s).tickDraws = s.tickDraws ∧
    (lockPort s).pending = s.pending := by
  simp [lockPort]

@[simp] theorem loseLock_frame (m : Nat) (s : State) :
    (loseLock m s).phase = s.phase ∧
    (loseLock m s).settings = s.settings ∧
    (loseLock m s).rxv = s.rxv ∧
    (loseLock m s).cbsy = s.cbsy ∧
    (loseLock m s).receive = s.receive ∧
    (loseLock m s).transmit = s.transmit ∧
    (loseLock m s).scheduler = s.scheduler ∧
    (loseLock m s).control = s.control ∧
    (loseLock m s).peers = s.peers ∧
    (loseLock m s).scanIndex = s.scanIndex ∧
    (loseLock m s).store = s.store ∧
    (loseLock m s).tickDraws = s.tickDraws ∧
    (loseLock m s).pending = s.pending := by
  simp [loseLock]

@[simp] theorem markUnlocked_frame (n : Nat) (s : State) :
    (markUnlocked n s).phase = s.phase ∧
    (markUnlocked n s).settings = s.settings ∧
    (markUnlocked n s).rxv = s.rxv ∧
    (markUnlocked n s).cbsy = s.cbsy ∧
    (markUnlocked n s).receive = s.receive ∧
    (markUnlocked n s).transmit = s.transmit ∧
    (markUnlocked n s).scheduler = s.scheduler ∧
    (markUnlocked n s).control = s.control ∧
    (markUnlocked n s).sidetone = s.sidetone ∧
    (markUnlocked n s).engine = s.engine ∧
    (markUnlocked n s).flags = s.flags ∧
    (markUnlocked n s).scanIndex = s.scanIndex ∧
    (markUnlocked n s).store = s.store ∧
    (markUnlocked n s).tickDraws = s.tickDraws ∧
    (markUnlocked n s).pending = s.pending := by
  unfold markUnlocked; split <;> (try split) <;> (try split) <;> simp

@[simp] theorem markLocked_frame (n : Nat) (s : State) :
    (markLocked n s).phase = s.phase ∧
    (markLocked n s).settings = s.settings ∧
    (markLocked n s).rxv = s.rxv ∧
    (markLocked n s).cbsy = s.cbsy ∧
    (markLocked n s).receive = s.receive ∧
    (markLocked n s).transmit = s.transmit ∧
    (markLocked n s).scheduler = s.scheduler ∧
    (markLocked n s).control = s.control ∧
    (markLocked n s).peers = s.peers ∧
    (markLocked n s).scanIndex = s.scanIndex ∧
    (markLocked n s).store = s.store ∧
    (markLocked n s).tickDraws = s.tickDraws ∧
    (markLocked n s).pending = s.pending := by
  unfold markLocked; split <;> simp

@[simp] theorem powerOn_frame (s : State) :
    (powerOn s).rxv = s.rxv ∧
    (powerOn s).cbsy = s.cbsy ∧
    (powerOn s).tickDraws = s.tickDraws ∧
    (powerOn s).pending = s.pending := by
  simp [powerOn]

@[simp] theorem leavePowerOn_frame (g : Settings) (s : State) :
    (leavePowerOn g s).rxv = s.rxv ∧
    (leavePowerOn g s).cbsy = s.cbsy ∧
    (leavePowerOn g s).tickDraws = s.tickDraws ∧
    (leavePowerOn g s).pending = s.pending := by
  simp [leavePowerOn]

@[simp] theorem loadTag_frame (tag : Tag) (s : State) :
    (loadTag tag s).phase = s.phase ∧
    (loadTag tag s).settings = s.settings ∧
    (loadTag tag s).rxv = s.rxv ∧
    (loadTag tag s).cbsy = s.cbsy ∧
    (loadTag tag s).receive = s.receive ∧
    (loadTag tag s).peers = s.peers ∧
    (loadTag tag s).sidetone = s.sidetone ∧
    (loadTag tag s).engine = s.engine ∧
    (loadTag tag s).lap = s.lap ∧
    (loadTag tag s).flags = s.flags ∧
    (loadTag tag s).scanIndex = s.scanIndex ∧
    (loadTag tag s).store = s.store ∧
    (loadTag tag s).tickDraws = s.tickDraws ∧
    (loadTag tag s).pending = s.pending := by
  unfold loadTag; split <;> simp

end Sys2Proof.Machine
end

