-- ==== Sys2Proof/Laws/Access.lean ====
section
/-! SUPPORT. What each operation on the pending positions does to the transmit side: it begins an access,
abandons one, or leaves the side as it is (R25, R26, R29, R31, R34). -/

namespace Sys2Proof.Machine

/-! ## Placing a frame -/

/-- The gap of a number, or of N = 8 where none is held (R31). -/
theorem gapLength_eq (number : Option Station) :
    gapLength number = 50 + 25 * match number with | some n => n.val | none => 8 := by cases number <;> rfl

theorem startAccess_begins (s : State) :
    (startAccess s).transmit = accessBegun s.cbsy s.control.number s.transmit := by
  rw [startAccess_transmit, enterDefer_transmit, gapLength_eq]; rfl

theorem placeAudio_transmit (f : AudioFrame) (s : State) :
    (placeAudio f s).transmit = accessBegun s.cbsy s.control.number s.transmit := by
  simp [placeAudio, startAccess_begins]

theorem placePresence_transmit (s : State) :
    (placePresence s).transmit = accessBegun s.cbsy s.control.number s.transmit := by
  simp [placePresence, startAccess_begins]

theorem enterClashed_transmit (s : State) :
    (enterClashed s).transmit = accessBegun s.cbsy s.control.number s.transmit := by
  simp [enterClashed, placePresence_transmit]

theorem enterActive_transmit (n : Station) (s : State) :
    (enterActive n s).transmit = accessBegun s.cbsy (some n) s.transmit := by
  simp [enterActive, placePresence_transmit, zeroAnnounceCounts]

/-! ## Emptying the positions -/

/-- With nothing pending an access is abandoned. -/
theorem abandonIfEmpty_abandons {s : State} (h : framePending s = false) :
    (abandonIfEmpty s).transmit = accessAbandoned s.transmit := by
  simp [abandonIfEmpty_transmit, h, accessing_iff, accessAbandoned]

/-- With a frame pending the transmit side goes on. -/
theorem abandonIfEmpty_keeps {s : State} (h : framePending s = true) :
    (abandonIfEmpty s).transmit = s.transmit := by simp [abandonIfEmpty_transmit, h]

theorem emptyPositions_transmit (s : State) : (emptyPositions s).transmit = accessAbandoned s.transmit :=
  abandonIfEmpty_abandons (by simp [framePending_eq_false_iff])

theorem enterListenOnly_transmit (s : State) : (enterListenOnly s).transmit = accessAbandoned s.transmit := by
  simp [enterListenOnly, emptyPositions_transmit, zeroAnnounceCounts]

theorem forget_transmit (s : State) : (forget s).transmit = accessAbandoned s.transmit := by
  simp only [forget, mapPeers_frame, emptyPositions_transmit, zeroAnnounceCounts, queueTagWrite]
  split <;> rfl

theorem enterStarting_transmit (tag : Tag) (s : State) :
    (enterStarting tag s).transmit = accessAbandoned s.transmit := by
  simp [enterStarting, emptyPositions_transmit, zeroAnnounceCounts]

theorem joinGroup_transmit (tag : Tag) (s : State) : (joinGroup tag s).transmit = accessAbandoned s.transmit := by
  simp [joinGroup, enterStarting_transmit, queueTagWrite]

/-- A discarded OFFER leaves the transmit side, or abandons an access that it alone had begun. -/
theorem discardOffer_transmit (s : State) :
    (discardOffer s).transmit =
      if s.scheduler.announce = some .offer ∧ s.scheduler.audio = none then accessAbandoned s.transmit
      else s.transmit := by
  unfold discardOffer
  split <;> rename_i h
  · cases ha : s.scheduler.audio with
    | none => rw [abandonIfEmpty_abandons (by simp [framePending_eq_false_iff, ha])]; simp [h]
    | some f => rw [abandonIfEmpty_keeps (by simp [framePending_iff, ha])]; simp
  all_goals simp [h]

/-! ## Access twice -/

/-- A side that has begun an access does not begin another. -/
@[simp] theorem accessBegun_accessBegun (c d : Bool) (m n : Option Station) (t : TransmitSide) :
    accessBegun c m (accessBegun d n t) = accessBegun d n t := by
  unfold accessBegun; split <;> simp_all; split <;> simp

/-- An access that is abandoned leaves nothing to abandon. -/
@[simp] theorem accessAbandoned_accessAbandoned (t : TransmitSide) :
    accessAbandoned (accessAbandoned t) = accessAbandoned t := by
  unfold accessAbandoned; split <;> simp

end Sys2Proof.Machine
end

