-- ==== Sys2Proof/Laws/Exec.lean ====
section
/-! SUPPORT. Everything each event can do: if it answers a next state, then one of these cases holds.
Later proofs cite these and unfold no meaning. -/

namespace Sys2Proof.Machine

variable {s t : State}

theorem execResetnLow_cases (h : execResetnLow s = .next t) : t = powerOn s := by
  cases h; rfl

theorem execStartUp_cases (h : execStartUp s = .next t) :
    t = s ∨ (s.phase = .held ∧
      t = { s with phase := .reading, store := { s.store with transaction := some startUpTransaction } }) := by
  unfold execStartUp at h; split at h <;> cases h <;> simp_all

theorem execStartUpReadComplete_cases {smi : Vector Bool 256} (h : execStartUpReadComplete smi s = .next t) :
    t = s ∨ (s.phase = .reading ∧ t = loadTag (tagOf (smiImage smi)) (leavePowerOn (settingsOf (smiImage smi)) s)) := by
  unfold execStartUpReadComplete at h
  split at h <;> rename_i hp
  · exact .inr ⟨hp, (Host.Outcome.next.inj h).symm⟩
  all_goals exact .inl (Host.Outcome.next.inj h).symm

theorem execReceptionStart_cases (h : execReceptionStart s = .next t) :
    (s.receive.state = .receiving ∧ t = s) ∨
    (s.receive.state = .ready ∧ t = { s with
      rxv := true
      receive := { state := .receiving, buffer := [], byteCount := 0, crc := 0xFFFF#16, bits := [] } }) ∨
    ((s.receive.state = .off ∨ s.receive.state = .blanked) ∧ t = { s with rxv := true }) := by
  unfold execReceptionStart at h; split at h <;> cases h <;> simp_all

theorem execBlankedRxvFall_cases (h : execBlankedRxvFall s = .next t) :
    (s.receive.state = .receiving ∧ t = s) ∨
    (s.receive.state = .blanked ∧ s.transmit.state ≠ .sending ∧
      t = { s with rxv := false, receive := { s.receive with state := .ready } }) ∨
    ((s.receive.state = .off ∨ s.receive.state = .ready ∨
        (s.receive.state = .blanked ∧ s.transmit.state = .sending)) ∧ t = { s with rxv := false }) := by
  unfold execBlankedRxvFall at h; split at h <;> (try split at h) <;> cases h <;> simp_all

/-- The state a reception's end leaves is judged if a whole byte came (R12). -/
theorem execFrameArrival_cases (h : execFrameArrival s = .next t) :
    (s.receive.state ≠ .receiving ∧ t = s) ∨
    (s.receive.state = .receiving ∧ s.receive.byteCount = 0 ∧
      t = { s with rxv := false, receive := { s.receive with state := .ready, bits := [] } }) ∨
    (s.receive.state = .receiving ∧ s.receive.byteCount ≠ 0 ∧
      t = judgeFrame { s with rxv := false, receive := { s.receive with state := .ready, bits := [] } }) := by
  unfold execFrameArrival at h
  split at h
  · by_cases hb : s.receive.byteCount = 0 <;> simp only [hb, if_true, if_false] at h <;> cases h <;> simp_all
  all_goals cases h; simp_all

theorem execByteComplete_cases {rxd : Vector Bool 8} (h : execByteComplete rxd s = .next t) :
    (s.receive.state ≠ .receiving ∧ t = s) ∨
    (s.receive.state = .receiving ∧ t = { s with receive := rxd.toList.foldl receiveBit s.receive }) := by
  unfold execByteComplete at h; split at h <;> cases h <;> simp_all

/-- What judging a frame can do: discard it with a flag or none, adopt its tag, take the clash path, or
accept it at the Peer Table (R15 to R18). -/
theorem judgeFrame_cases (s : State) :
    judgeFrame s = s ∨ (∃ f : Flag, judgeFrame s = setFlag f s) ∨
    ∃ f : AirFrame, frameCheckPasses s.receive = true ∧ formCheck s.receive = some f ∧
      ((s.control.selfState = .unpaired ∧ f.kind = .offer ∧ judgeFrame s = adoptOffer f s) ∨
      (s.control.selfState ≠ .unpaired ∧ f.tag = s.control.tag ∧ s.control.number = some f.sender ∧
        judgeFrame s = clashPath f s) ∨
      (s.control.selfState ≠ .unpaired ∧ f.tag = s.control.tag ∧ s.control.number ≠ some f.sender ∧
        judgeFrame s = acceptFrame f s)) := by
  unfold judgeFrame
  by_cases hc : frameCheckPasses s.receive = true
  · rw [if_pos hc]
    cases hf : formCheck s.receive with
    | none => exact .inr (.inl ⟨.malformed, rfl⟩)
    | some f =>
      simp only []
      unfold dispatchFrame
      cases hs : s.control.selfState <;> simp only []
      case unpaired =>
        by_cases ho : f.kind = .offer
        · rw [if_pos ho]; exact .inr (.inr ⟨f, hc, hf ▸ rfl, .inl ⟨by simp, ho, rfl⟩⟩)
        · rw [if_neg ho]; exact .inl rfl
      all_goals
        by_cases ht : f.tag ≠ s.control.tag
        · rw [if_pos ht]; exact .inr (.inl ⟨.foreign, rfl⟩)
        · rw [if_neg ht]
          by_cases hn : s.control.number = some f.sender
          · rw [if_pos hn]
            exact .inr (.inr ⟨f, hc, hf ▸ rfl, .inr (.inl ⟨by simp, not_not.1 ht, hn, rfl⟩)⟩)
          · rw [if_neg hn]
            exact .inr (.inr ⟨f, hc, hf ▸ rfl, .inr (.inr ⟨by simp, not_not.1 ht, hn, rfl⟩)⟩)
  · rw [if_neg hc]; exact .inr (.inl ⟨.checkFail, rfl⟩)

theorem execAirTick_cases (h : execAirTick s = .next t) :
    (s.phase ≠ .running ∧ t = s) ∨ (s.phase = .running ∧ t = airTick s) := by
  unfold execAirTick at h; split at h <;> cases h <;> simp_all

theorem execPresenceCountExpiry_cases (h : execPresenceCountExpiry s = .next t) :
    t = s ∨ (s.phase = .running ∧ presenceDue s = true ∧ t = presenceExpiry s) := by
  unfold execPresenceCountExpiry at h; split at h <;> cases h <;> simp_all

theorem execOfferCountExpiry_cases (h : execOfferCountExpiry s = .next t) :
    t = s ∨ (s.phase = .running ∧ offerDue s = true ∧ t = offerExpiry s) := by
  unfold execOfferCountExpiry at h; split at h <;> cases h <;> simp_all

theorem execListeningPeriodExpiry_cases (h : execListeningPeriodExpiry s = .next t) :
    t = s ∨ (s.phase = .running ∧ listeningDue s = true ∧ t = listeningExpiry s) := by
  unfold execListeningPeriodExpiry at h; split at h <;> cases h <;> simp_all

theorem execClashWaitExpiry_cases (h : execClashWaitExpiry s = .next t) :
    t = s ∨ (s.phase = .running ∧ clashWaitDue s = true ∧ t = clashWaitExpires s) := by
  unfold execClashWaitExpiry at h; split at h <;> cases h <;> simp_all

theorem execListenOnlyRetry_cases (h : execListenOnlyRetry s = .next t) :
    t = s ∨ (s.phase = .running ∧ retryDue s = true ∧ t = retryChoice s) := by
  unfold execListenOnlyRetry at h; split at h <;> cases h <;> simp_all

theorem execWindowClose_cases (h : execWindowClose s = .next t) :
    t = s ∨ (s.phase = .running ∧ windowDue s = true ∧ t = closePairing s) := by
  unfold execWindowClose at h; split at h <;> cases h <;> simp_all

theorem execHeardTimeout_cases {k : Station} (h : execHeardTimeout k s = .next t) :
    t = s ∨ (s.phase = .running ∧ (peerAt s k).entry.state = .heard ∧ silenceDue (peerAt s k).entry = true ∧
      t = updatePeer k heardTimesOut s) := by
  unfold execHeardTimeout at h; split at h <;> cases h <;> simp_all

theorem execStale_cases {k : Station} (h : execStale k s = .next t) :
    t = s ∨ (s.phase = .running ∧ (peerAt s k).entry.state = .admitted ∧ silenceDue (peerAt s k).entry = true ∧
      t = updatePeer k goesStale s) := by
  unfold execStale at h; split at h <;> cases h <;> simp_all

theorem execPeerLost_cases {k : Station} (h : execPeerLost k s = .next t) :
    t = s ∨ (s.phase = .running ∧ (peerAt s k).entry.state = .stale ∧ silenceDue (peerAt s k).entry = true ∧
      t = setFlag .peerLost (updatePeer k isLost s)) := by
  unfold execPeerLost at h; split at h <;> cases h <;> simp_all

theorem execCbsyRise_cases (h : execCbsyRise s = .next t) :
    (s.transmit.state ≠ .gap ∧ t = { s with cbsy := true }) ∨
    (s.transmit.state = .gap ∧
      t = { s with cbsy := true, transmit := { s.transmit with state := .defer, gapTimer := none } }) := by
  unfold execCbsyRise at h; split at h <;> cases h <;> simp_all

theorem execCbsyFall_cases (h : execCbsyFall s = .next t) :
    (s.transmit.state ≠ .defer ∧ t = { s with cbsy := false }) ∨
    (s.transmit.state = .defer ∧ t = enterDefer { s with cbsy := false }) := by
  unfold execCbsyFall at h; split at h <;> cases h <;> simp_all

theorem execGapExpiry_cases (h : execGapExpiry s = .next t) :
    t = s ∨ (s.transmit.state = .gap ∧ s.cbsy = false ∧ t = sendChosen s) := by
  unfold execGapExpiry at h; split at h <;> cases h <;> simp_all

/-- The end of a transmission, by whether a frame is pending (R33). -/
theorem execTransmissionEnd_cases (h : execTransmissionEnd s = .next t) :
    (s.transmit.state ≠ .sending ∧ t = s) ∨
    (s.transmit.state = .sending ∧ framePending s = true ∧
      t = enterDefer (unblank { s with transmit := { state := .idle, gapTimer := none, onAir := none } })) ∨
    (s.transmit.state = .sending ∧ framePending s = false ∧
      t = unblank { s with transmit := { state := .idle, gapTimer := none, onAir := none } }) := by
  unfold execTransmissionEnd at h
  split at h
  · by_cases hp : framePending s = true
    · simp only [hp, if_true] at h; cases h; simp_all
    · simp only [hp] at h; cases h; simp_all
  all_goals cases h; simp_all

theorem execBlockEvent_cases {adi : List Bool} (h : execBlockEvent adi s = .next t) :
    (¬ BlockEnds s ∧ t = s) ∨ (BlockEnds s ∧ t = blockEvent adi s) := by
  unfold execBlockEvent at h
  split at h <;> rename_i hc <;> cases h
  · exact .inr ⟨hc, rfl⟩
  · exact .inl ⟨hc, rfl⟩

theorem execPortFrameEnd_cases {adi : List Bool} (h : execPortFrameEnd adi s = .next t) :
    t = s ∨ (s.lap.lock = .locked ∧ s.lap.frameCounter < 63 ∧
      t = { s with lap := { s.lap with
        frameCounter := s.lap.frameCounter + 1
        assembly := s.lap.assembly ++ [captureSample s.settings adi] } }) := by
  unfold execPortFrameEnd at h; split at h <;> cases h <;> simp_all

theorem execQueueLapse_cases {k : Station} (h : execQueueLapse k s = .next t) :
    t = s ∨ (BlockEnds s ∧ lapseDue (peerAt s k).queue = true ∧ t = setFlag .peerLapse (updatePeer k lapsePeer s)) := by
  unfold execQueueLapse at h
  split at h <;> rename_i hc <;> cases h
  · exact .inr ⟨hc.1, hc.2, rfl⟩
  · exact .inl rfl

theorem execDriftWindowClose_cases {k : Station} (h : execDriftWindowClose k s = .next t) :
    t = s ∨ (BlockEnds s ∧ windowCloses s.settings (peerAt s k) = true ∧ t = updatePeer k (closeAtTake s.settings) s) := by
  unfold execDriftWindowClose at h
  split at h <;> rename_i hc <;> cases h
  · exact .inr ⟨hc.1, hc.2, rfl⟩
  · exact .inl rfl

theorem execComputationComplete_cases (h : execComputationComplete s = .next t) :
    (s.engine.state = .idle ∧ t = s) ∨
    (s.engine.state = .computing ∧
      t = setFlagIf (computeAccSat s.engine) .accSat (setFlagIf (computeOutClip s.engine) .outClip
        { s with engine := completeEngine s.engine })) := by
  unfold execComputationComplete at h; split at h <;> cases h <;> simp_all

theorem execFrameMark_cases {n : Nat} (h : execFrameMark n s = .next t) :
    t = s ∨ (s.settings.clock = .slave ∧ s.lap.lock = .unlocked ∧ t = markUnlocked n s) ∨
    (s.settings.clock = .slave ∧ s.lap.lock = .locked ∧ t = markLocked n s) := by
  unfold execFrameMark at h; split at h <;> cases h <;> simp_all

theorem execMissedMark_cases (h : execMissedMark s = .next t) :
    t = s ∨ (s.settings.clock = .slave ∧ s.lap.lock = .unlocked ∧ t = { s with lap := { s.lap with markCount := 0 } }) ∨
    (s.settings.clock = .slave ∧ s.lap.lock = .locked ∧ t = loseLock 0 s) := by
  unfold execMissedMark at h; split at h <;> cases h <;> simp_all

theorem execTagWriteStart_cases (h : execTagWriteStart s = .next t) :
    t = s ∨ (s.phase = .running ∧ t = storeTick s) := by
  unfold execTagWriteStart at h; split at h <;> cases h <;> simp_all

theorem execWriteTransactionEnd_cases (h : execWriteTransactionEnd s = .next t) :
    t = s ∨ (s.store.writeState = .writing ∧
      t = { s with store := { s.store with transaction := none, writeState := .waiting } }) := by
  unfold execWriteTransactionEnd at h; split at h <;> cases h <;> simp_all

theorem execWriteTimeEnd_cases (h : execWriteTimeEnd s = .next t) :
    t = s ∨ (s.store.writeState = .waiting ∧
      t = { s with store := { s.store with transaction := some readBackTransaction, writeState := .checking } }) := by
  unfold execWriteTimeEnd at h; split at h <;> cases h <;> simp_all

theorem execWriteCompletion_cases {a b : Vector Bool 8} (h : execWriteCompletion a b s = .next t) :
    t = s ∨ (s.store.writeState = .checking ∧
      t = setFlagIf (s.store.inProgress != some (smiTag a b)) .storeFail
        { s with store := { s.store with transaction := none, inProgress := none, writeState := .idle } }) := by
  unfold execWriteCompletion at h; split at h <;> cases h <;> simp_all

end Sys2Proof.Machine
end

