-- ==== Sys2Proof/Laws/Operands.lean ====
section
/-! SUPPORT. What the operations on sampled bits give: the bits of a number sampled most significant bit
first, of a slot's word, of a byte on RXD or SMI, of the image and of the tag; what a byte received bit by bit
does; and when the port's clock pins are driven. Later proofs cite these and unfold no fold. -/

namespace Sys2Proof.Machine

/-- One more bit sampled doubles the number and adds the bit. -/
theorem sampledNumber_succ (bits : List Bool) (start w : Nat) :
    sampledNumber bits start (w + 1) =
      2 * sampledNumber bits start w + (bits.getD (start + w) false).toNat := by
  simp [sampledNumber, List.range_succ]

/-- Bit `w - 1 - j` of a number of `w` bits is the one sampled at place `j`. -/
theorem sampledNumber_testBit (bits : List Bool) (start : Nat) :
    ∀ w j : Nat, j < w → (sampledNumber bits start w).testBit (w - 1 - j) = bits.getD (start + j) false
  | 0, _, h => absurd h (Nat.not_lt_zero _)
  | w + 1, j, h => by
    rw [sampledNumber_succ, Nat.add_sub_cancel]
    rcases Nat.lt_succ_iff_lt_or_eq.1 h with hj | rfl
    · rw [show w - j = (w - 1 - j) + 1 by omega, Nat.testBit_succ,
        show (2 * sampledNumber bits start w + (bits.getD (start + w) false).toNat) / 2 =
          sampledNumber bits start w by have := Bool.toNat_lt (bits.getD (start + w) false); omega]
      exact sampledNumber_testBit bits start w j hj
    · rw [Nat.sub_self, Nat.testBit_zero]
      cases bits.getD (start + j) false <;> simp

/-- The bit sampled at place `j` of a slot is bit 15 - j of its word (R148). -/
theorem wordAt_getLsbD (adi : List Bool) (start : Nat) {j : Nat} (h : j < 16) :
    (wordAt adi start).getLsbD (15 - j) = adi.getD (start + j) false := by
  rw [wordAt, BitVec.getLsbD_ofNat, sampledNumber_testBit adi start 16 j h, decide_eq_true (by omega), Bool.true_and]

/-- The bit sampled at place `j` of a data byte is its bit 7 - j (R1, R171). -/
theorem sampledByte_getLsbD (bits : List Bool) (i : Nat) {j : Nat} (h : j < 8) :
    (sampledByte bits i).getLsbD (7 - j) = bits.getD (8 * i + j) false := by
  rw [sampledByte, BitVec.getLsbD_ofNat, sampledNumber_testBit bits (8 * i) 8 j h, decide_eq_true (by omega),
    Bool.true_and]

/-- Two bytes with the same bits, read from bit 7 down, are one. -/
theorem byte_ext {a b : Byte} (h : ∀ j : Nat, j < 8 → a.getLsbD (7 - j) = b.getLsbD (7 - j)) : a = b := by
  refine BitVec.eq_of_getLsbD_eq fun i hi => ?_
  have := h (7 - i) (by omega)
  rwa [show 7 - (7 - i) = i by omega] at this

/-- The part clocks in the image that SMI carries (R171, R172). -/
theorem smiImage_of_carries {image : Image} {smi : Vector Bool 256} (h : Carries image smi) :
    smiImage smi = image := by
  refine Vector.ext fun i hi => byte_ext fun j hj => ?_
  rw [smiImage, Vector.getElem_ofFn, sampledByte_getLsbD _ _ hj]
  exact h ⟨i, hi⟩ ⟨j, hj⟩

/-- The tag read back has the bits sampled, the first as bit 15 (R171, R176). -/
theorem smiTag_eq_iff (first second : Vector Bool 8) (v : Tag) :
    smiTag first second = v ↔
      ∀ j : Fin 8, first[j] = v.getLsbD (15 - j.val) ∧ second[j] = v.getLsbD (7 - j.val) := by
  have at_ (b : Vector Bool 8) (j : Nat) (h : j < 8) : b.toList.getD (8 * 0 + j) false = b[j] := by simp [h]
  constructor
  · rintro rfl j
    simp only [smiTag, BitVec.getLsbD_append, Fin.getElem_fin]
    rw [if_neg (by omega), if_pos (by omega), show 15 - j.val - 8 = 7 - j.val by omega,
      sampledByte_getLsbD _ _ j.isLt, sampledByte_getLsbD _ _ j.isLt, at_ _ _ j.isLt, at_ _ _ j.isLt]
    exact ⟨rfl, rfl⟩
  · intro h
    refine BitVec.eq_of_getLsbD_eq fun i hi => ?_
    rw [smiTag, BitVec.getLsbD_append]
    by_cases h8 : i < 8
    · have := (h ⟨7 - i, by omega⟩).2
      rw [if_pos h8, show i = 7 - (7 - i) by omega, sampledByte_getLsbD _ _ (by omega), at_ _ _ (by omega)]
      exact this
    · have := (h ⟨15 - i, by omega⟩).1
      rw [if_neg h8, show i - 8 = 7 - (15 - i) by omega, sampledByte_getLsbD _ _ (by omega), at_ _ _ (by omega)]
      rwa [show 15 - (15 - i) = i by omega] at this

/-- Eight bits into a receive side with none in assembly are the byte they make, received whole (R1, R11). -/
theorem receiveBits_of_none {r : ReceiveSide} (h : r.bits = []) (rxd : Vector Bool 8) :
    rxd.toList.foldl receiveBit r = receiveByte (sampledByte rxd.toList 0) r := by
  obtain ⟨l, hl⟩ : ∃ l, l = rxd.toList := ⟨_, rfl⟩
  have h8 : l.length = 8 := by simp [hl]
  rw [← hl]
  match l, h8 with
  | [_, _, _, _, _, _, _, _], _ => simp [receiveBit, receiveByte, h]

/-! ## When a pin is driven -/

theorem drivesPort_iff (s : State) : drivesPort s = true ↔ s.settings.clock = .master ∧ s.lap.lock = .locked := by
  simp [drivesPort]

theorem extraFirst_iff (s : State) :
    extraFirst s = true ↔ s.lap.lock = .locked ∧ s.settings.clock = .master ∧
      s.settings.markPosition = .early ∧ s.lap.leadIn = true ∧ s.lap.frameCounter = 0 := by
  simp [extraFirst, and_assoc]

end Sys2Proof.Machine
end

