-- ==== Sys2Proof/Laws/Queues.lean ====
section
/-! SUPPORT. What each operation on a queue and its peer does: flushes, arrivals, takes and levels. -/

namespace Sys2Proof.Machine

/-! ## Flushes and conditions (R76, R100) -/

@[simp] theorem flushPeer_entry (d : QueueState) (p : Peer) : (flushPeer d p).entry = p.entry := rfl

@[simp] theorem flushPeer_queue (d : QueueState) (p : Peer) : (flushPeer d p).queue = flushQueue d p.queue := rfl

@[simp] theorem flushPeer_drift (d : QueueState) (p : Peer) : (flushPeer d p).drift = DriftSums.zero := rfl

@[simp] theorem flushPeer_record (d : QueueState) (p : Peer) : (flushPeer d p).record = InputRecord.zero := rfl

@[simp] theorem flushQueue_state (d : QueueState) (q : Queue) : (flushQueue d q).state = d := rfl

@[simp] theorem flushQueue_slots (d : QueueState) (q : Queue) : (flushQueue d q).slots = [] := rfl

@[simp] theorem flushQueue_start (d : QueueState) (q : Queue) : (flushQueue d q).start = none := rfl

@[simp] theorem flushQueue_cursor (d : QueueState) (q : Queue) : (flushQueue d q).cursor = none := rfl

@[simp] theorem flushQueue_concealed (d : QueueState) (q : Queue) : (flushQueue d q).concealed = 0 := rfl

@[simp] theorem flushQueue_correction (d : QueueState) (q : Queue) : (flushQueue d q).correction = none := rfl

@[simp] theorem flushQueue_lastGood (d : QueueState) (q : Queue) : (flushQueue d q).lastGood = q.lastGood := rfl

@[simp] theorem withConditions_entry (c : Conditions) (p : Peer) :
    (withConditions c p).entry = { p.entry with conditions := unionConditions p.entry.conditions c } := rfl

@[simp] theorem withConditions_queue (c : Conditions) (p : Peer) : (withConditions c p).queue = p.queue := rfl

@[simp] theorem withConditions_drift (c : Conditions) (p : Peer) : (withConditions c p).drift = p.drift := rfl

@[simp] theorem withConditions_record (c : Conditions) (p : Peer) : (withConditions c p).record = p.record := rfl

/-- An IDLE queue is left, any other is flushed to PRIMING (R65, R99). -/
theorem flushIfActive_eq (p : Peer) :
    flushIfActive p = if p.queue.state = .idle then p else flushPeer .priming p := by
  unfold flushIfActive; split <;> simp_all

@[simp] theorem flushIfActive_entry (p : Peer) : (flushIfActive p).entry = p.entry := by
  rw [flushIfActive_eq]; split <;> rfl

/-! ## Slots (R74, R79, R80) -/

/-- A slot is held for a sequence number exactly if some slot has it. -/
theorem holdsSeq_iff (q : Queue) (seq : Seq) : holdsSeq q seq = true ↔ ∃ x ∈ q.slots, x.seq = seq := by
  simp [holdsSeq, slotFor]

theorem holdsSeq_eq_false_iff (q : Queue) (seq : Seq) :
    holdsSeq q seq = false ↔ ¬ ∃ x ∈ q.slots, x.seq = seq := by
  rw [← holdsSeq_iff]; simp

/-- Inserting a slot adds it and moves no other out. -/
theorem insertSlot_perm (w : Seq) (x : Slot) (l : List Slot) : (insertSlot w x l).Perm (x :: l) := by
  induction l with
  | nil => exact List.Perm.refl _
  | cons y rest ih =>
    unfold insertSlot
    split
    · exact List.Perm.refl _
    · exact (ih.cons y).trans (List.Perm.swap x y rest)

@[simp] theorem insertSlot_length (w : Seq) (x : Slot) (l : List Slot) :
    (insertSlot w x l).length = l.length + 1 := by
  simpa using (insertSlot_perm w x l).length_eq

@[simp] theorem mem_insertSlot (w : Seq) (x y : Slot) (l : List Slot) :
    y ∈ insertSlot w x l ↔ y = x ∨ y ∈ l := by
  simpa using (insertSlot_perm w x l).mem_iff (a := y)

/-- Inserting a slot of a new number keeps the numbers distinct. -/
theorem nodup_insertSlot {w : Seq} {x : Slot} {l : List Slot} (hl : (l.map Slot.seq).Nodup)
    (hx : ∀ y ∈ l, y.seq ≠ x.seq) : ((insertSlot w x l).map Slot.seq).Nodup := by
  rw [((insertSlot_perm w x l).map Slot.seq).nodup_iff]
  simpa using ⟨hx, hl⟩

/-- Two slots of different numbers lie at different distances from W. -/
theorem distance_ne {w : Seq} {x y : Slot} (h : y.seq ≠ x.seq) : (y.seq - w).toNat ≠ (x.seq - w).toNat :=
  fun e => h (by simpa using congrArg (· + w) (BitVec.eq_of_toNat_eq e))

/-- Where a slot of a new number goes: before the first slot that lies farther from W, so that a list in
sequence order stays in it (R80). -/
theorem insertSlot_split {w : Seq} {x : Slot} {l : List Slot} (hx : ∀ y ∈ l, y.seq ≠ x.seq) :
    ∃ nearer farther : List Slot, l = nearer ++ farther ∧ insertSlot w x l = nearer ++ x :: farther ∧
      (∀ y ∈ nearer, (y.seq - w).toNat < (x.seq - w).toNat) ∧
      ∀ y ∈ farther.head?, (x.seq - w).toNat < (y.seq - w).toNat := by
  induction l with
  | nil => exact ⟨[], [], rfl, rfl, by simp, by simp⟩
  | cons y rest ih =>
    unfold insertSlot
    split
    · exact ⟨[], y :: rest, rfl, rfl, by simp, by simpa⟩
    · obtain ⟨nearer, farther, hl, hi, hn, hf⟩ := ih fun z hz => hx z (by simp [hz])
      refine ⟨y :: nearer, farther, by simp [← hl], by simp [hi], ?_, hf⟩
      have := distance_ne (w := w) (hx y (by simp))
      exact List.forall_mem_cons.2 ⟨by omega, hn⟩

/-! ## Arrivals (R77 to R83) -/

/-- The queue after an in-window slot: it enters PLAYING, or keeps its state (R83). -/
theorem enterPlaying_cases (depth : Nat) (w : Seq) (q : Queue) :
    (q.state = .priming ∧ depth ≤ q.slots.length ∧
      enterPlaying depth w q =
        { q with state := .playing, cursor := some { block := w, offset := 0 }, lastGood := zeroBlock }) ∨
    ((q.state ≠ .priming ∨ q.slots.length < depth) ∧ enterPlaying depth w q = q) := by
  unfold enterPlaying
  split
  · exact .inl ⟨(‹_ ∧ _›).1, (‹_ ∧ _›).2, rfl⟩
  · rename_i hn
    refine .inr ⟨?_, rfl⟩
    by_cases h : q.state = .priming
    · exact .inr (Nat.lt_of_not_le fun hd => hn ⟨h, hd⟩)
    · exact .inl h

/-- Everything an offered block can do at a queue (R77 to R83). -/
theorem offerBlock_cases (depth : Nat) (x : Slot) (p : Peer) :
    (p.queue.state = .idle ∧ offerBlock depth x p = p) ∨
    (p.queue.state ≠ .idle ∧ p.queue.start = none ∧
      offerBlock depth x p = { p with queue := { p.queue with slots := [x], start := some x.seq } }) ∨
    ∃ w : Seq, p.queue.state ≠ .idle ∧ p.queue.start = some w ∧
      (((x.seq - w).toNat ≤ 7 ∧ (¬ ∃ y ∈ p.queue.slots, y.seq = x.seq) ∧
        offerBlock depth x p =
          { p with queue := enterPlaying depth w { p.queue with slots := insertSlot w x p.queue.slots } }) ∨
      ((x.seq - w).toNat ≤ 7 ∧ (∃ y ∈ p.queue.slots, y.seq = x.seq) ∧
        offerBlock depth x p = withConditions { Conditions.empty with duplicate := true } p) ∨
      (8 ≤ (x.seq - w).toNat ∧ (x.seq - w).toNat ≤ 2047 ∧
        offerBlock depth x p = withConditions { Conditions.empty with ahead := true } (primeAround x p)) ∨
      (2048 ≤ (x.seq - w).toNat ∧
        offerBlock depth x p = withConditions { Conditions.empty with late := true } p)) := by
  cases hs : p.queue.state with
  | idle => exact .inl ⟨rfl, by unfold offerBlock; rw [hs]⟩
  | priming | playing =>
    refine .inr ?_
    cases hw : p.queue.start with
    | none => exact .inl ⟨by simp, rfl, by unfold offerBlock; rw [hs, hw]⟩
    | some w =>
      refine .inr ⟨w, by simp, rfl, ?_⟩
      have ho : offerBlock depth x p =
          match windowTest w p.queue x.seq with
          | .inWindow =>
            { p with queue := enterPlaying depth w { p.queue with slots := insertSlot w x p.queue.slots } }
          | .duplicate => withConditions { Conditions.empty with duplicate := true } p
          | .late => withConditions { Conditions.empty with late := true } p
          | .ahead => withConditions { Conditions.empty with ahead := true } (primeAround x p) := by
        unfold offerBlock; rw [hs, hw] <;> rfl
      by_cases h7 : (x.seq - w).toNat ≤ 7
      · by_cases hh : holdsSeq p.queue x.seq = true
        · exact .inr (.inl ⟨h7, (holdsSeq_iff _ _).1 hh, by rw [ho]; simp only [windowTest, h7, hh, if_true]⟩)
        · refine .inl ⟨h7, fun e => hh ((holdsSeq_iff _ _).2 e), ?_⟩
          rw [ho]; simp only [windowTest, h7, hh, if_true, Bool.false_eq_true, if_false]
      · by_cases ha : (x.seq - w).toNat ≤ 2047
        · refine .inr (.inr (.inl ⟨by omega, ha, ?_⟩))
          rw [ho]; simp only [windowTest, h7, ha, if_true, if_false]
        · refine .inr (.inr (.inr ⟨by omega, ?_⟩))
          rw [ho]; simp only [windowTest, h7, ha, if_false]

/-- A block offered leaves every field of the entry but its conditions. -/
theorem offerBlock_entry (depth : Nat) (x : Slot) (p : Peer) :
    ∃ c : Conditions, (offerBlock depth x p).entry = { p.entry with conditions := c } := by
  rcases offerBlock_cases depth x p with ⟨_, h⟩ | ⟨_, _, h⟩ | ⟨w, _, _, ⟨_, _, h⟩ | ⟨_, _, h⟩ | ⟨_, _, h⟩ | ⟨_, h⟩⟩ <;>
    (rw [h]; exact ⟨_, rfl⟩)

/-! ## Takes (R84 to R91, R104) -/

/-- The span of a take is held exactly if its block is, and the next one where it crosses (R85). -/
theorem spanHeld_iff (q : Queue) (c : Cursor) (k : Nat) :
    spanHeld q c k = true ↔
      (∃ x ∈ q.slots, x.seq = c.block) ∧ (c.offset.val + k ≤ 64 ∨ ∃ x ∈ q.slots, x.seq = c.block + 1) := by
  simp [spanHeld, holdsSeq_iff]

@[simp] theorem advanceCursor_state (k : Nat) (c : Cursor) (q : Queue) : (advanceCursor k c q).state = q.state := rfl

@[simp] theorem advanceCursor_lastGood (k : Nat) (c : Cursor) (q : Queue) :
    (advanceCursor k c q).lastGood = q.lastGood := rfl

@[simp] theorem advanceCursor_concealed (k : Nat) (c : Cursor) (q : Queue) :
    (advanceCursor k c q).concealed = q.concealed := rfl

@[simp] theorem advanceCursor_correction (k : Nat) (c : Cursor) (q : Queue) :
    (advanceCursor k c q).correction = q.correction := rfl

theorem mem_advanceCursor_slots (k : Nat) (c : Cursor) (q : Queue) (x : Slot) :
    x ∈ (advanceCursor k c q).slots ↔ x ∈ q.slots ∧ (c.offset.val + k) / 64 ≤ (x.seq - c.block).toNat := by
  simp [advanceCursor]

/-- A drift window that has not reached its length stays open (R104). -/
theorem closeWindowIfDue_of_lt {g : Settings} {p : Peer} (h : p.drift.depthCount < g.driftWindow) :
    closeWindowIfDue g p = p := by
  unfold closeWindowIfDue; rw [if_neg (Nat.not_le.2 h)]

/-- The close of a window touches the correction and the sums alone (R104). -/
theorem closeWindowIfDue_cases (g : Settings) (p : Peer) :
    (p.drift.depthCount < g.driftWindow ∧ closeWindowIfDue g p = p) ∨
    (g.driftWindow ≤ p.drift.depthCount ∧ closeWindowIfDue g p = closeWindow g p) := by
  unfold closeWindowIfDue
  split
  · exact .inr ⟨‹_›, rfl⟩
  · exact .inl ⟨Nat.lt_of_not_le ‹_›, rfl⟩

/-- A lapse at the twenty-fifth concealment, or none (R91). -/
theorem lapseIfDue_cases (p : Peer) :
    (25 ≤ p.queue.concealed ∧
      lapseIfDue p = withConditions { Conditions.empty with lapse := true } (flushPeer .priming p)) ∨
    (p.queue.concealed < 25 ∧ lapseIfDue p = p) := by
  unfold lapseIfDue
  split
  · exact .inl ⟨‹_›, rfl⟩
  · exact .inr ⟨Nat.lt_of_not_le ‹_›, rfl⟩

/-- Everything a block event can do to a peer's queue: nothing, a played take, or a concealed one,
each before the close of its drift window (R84). -/
theorem takePeer_cases (g : Settings) (p : Peer) :
    (takeCursor p.queue = none ∧ takePeer g p = p) ∨
    ∃ c : Cursor, p.queue.state = .playing ∧ p.queue.cursor = some c ∧
      ((takePlays p.queue c = true ∧ takePeer g p = closeWindowIfDue g (playPeer c (depthSampled p))) ∨
      (takePlays p.queue c = false ∧ takePeer g p = closeWindowIfDue g (concealPeer c (depthSampled p)))) := by
  cases h : takeCursor p.queue with
  | none => exact .inl ⟨rfl, by unfold takePeer; rw [h]⟩
  | some c =>
    obtain ⟨hs, hc⟩ := (takeCursor_eq_some_iff _ _).1 h
    refine .inr ⟨c, hs, hc, ?_⟩
    cases hp : takePlays p.queue c with
    | true => exact .inl ⟨rfl, by unfold takePeer; rw [h]; simp only [hp, if_true]⟩
    | false => exact .inr ⟨rfl, by unfold takePeer; rw [h]; simp only [hp, Bool.false_eq_true, if_false]⟩

/-- A take leaves every field of the entry but its conditions (R84 to R91). -/
theorem takePeer_entry (g : Settings) (p : Peer) :
    ∃ c : Conditions, (takePeer g p).entry = { p.entry with conditions := c } := by
  have hclose : ∀ q : Peer, (closeWindowIfDue g q).entry = q.entry := fun q => by
    rcases closeWindowIfDue_cases g q with ⟨_, h⟩ | ⟨_, h⟩ <;> rw [h]; rfl
  rcases takePeer_cases g p with ⟨_, h⟩ | ⟨c, _, _, ⟨_, h⟩ | ⟨_, h⟩⟩
  · exact ⟨_, by rw [h]⟩
  · exact ⟨_, by rw [h, hclose]; rfl⟩
  · rw [h, hclose]
    unfold concealPeer
    rcases lapseIfDue_cases (withConditions (concealCondition (depthSampled p).queue c.block)
      { depthSampled p with queue := queueConcealed c (depthSampled p).queue }) with ⟨_, e⟩ | ⟨_, e⟩ <;>
      exact ⟨_, by rw [e]; rfl⟩

/-! ## Levels (R119 to R125) -/

@[simp] theorem meterTaken_entry (floor : Nat) (t : Taken) : (meterTaken floor t).peer.entry = t.peer.entry := by
  unfold meterTaken; split <;> rfl

@[simp] theorem meterTaken_queue (floor : Nat) (t : Taken) : (meterTaken floor t).peer.queue = t.peer.queue := by
  unfold meterTaken; split <;> rfl

@[simp] theorem meterTaken_drift (floor : Nat) (t : Taken) : (meterTaken floor t).peer.drift = t.peer.drift := by
  unfold meterTaken; split <;> rfl

@[simp] theorem meterTaken_output (floor : Nat) (t : Taken) : (meterTaken floor t).output = t.output := by
  unfold meterTaken; split <;> rfl

@[simp] theorem gatheredBlock_meterTaken (floor : Nat) (t : Taken) :
    gatheredBlock (meterTaken floor t) = gatheredBlock t := by
  simp [gatheredBlock]

@[simp] theorem rampTaken_entry (g : Settings) (total count : Nat) (t : Taken) :
    (rampTaken g total count t).peer.entry = t.peer.entry := by
  unfold rampTaken; split <;> rfl

@[simp] theorem rampTaken_queue (g : Settings) (total count : Nat) (t : Taken) :
    (rampTaken g total count t).peer.queue = t.peer.queue := by
  unfold rampTaken; split <;> rfl

@[simp] theorem rampTaken_drift (g : Settings) (total count : Nat) (t : Taken) :
    (rampTaken g total count t).peer.drift = t.peer.drift := by
  unfold rampTaken; split <;> rfl

@[simp] theorem rampTaken_output (g : Settings) (total count : Nat) (t : Taken) :
    (rampTaken g total count t).output = t.output := by
  unfold rampTaken; split <;> rfl

/-- Metering and ramping leave the entry, the queue, the sums and the output of every take. -/
theorem levelPeers_frame (g : Settings) (ts : Vector Taken 8) (k : Station) :
    (levelPeers g ts)[k].peer.entry = ts[k].peer.entry ∧ (levelPeers g ts)[k].peer.queue = ts[k].peer.queue ∧
      (levelPeers g ts)[k].peer.drift = ts[k].peer.drift ∧ (levelPeers g ts)[k].output = ts[k].output := by
  simp [levelPeers]

/-- The ramp takes the applied gain to its target, or 2048 toward it (R125). -/
theorem rampGain_le {applied target bound : Nat} (ha : applied ≤ bound) (ht : target ≤ bound) :
    rampGain applied target ≤ bound := by
  unfold rampGain; split <;> omega

end Sys2Proof.Machine
end

