-- ==== Sys2Proof/WellFormed.lean ====
section
/-! DEFINITION. Which events the outside can give as they are written: the checks on operands that
their types do not already make. The meanings are total and do not rely on them. -/

namespace Sys2Proof

/-- The frame lengths P = S × W of the LAP (R152). -/
def portFrameLengths : List Nat := [32, 48, 64, 96, 128, 192, 256]

/-- The bits of one port frame are as many as some frame of the LAP has (R147, R152). -/
def Instr.adiLengthOk (adi : List Bool) : Bool := portFrameLengths.contains adi.length

/-- A mark is a high sample of AFRM after a low one, so two marks lie at least two rising ABCK
edges apart (R147). -/
def Instr.spacingOk (spacing : Nat) : Bool := decide (2 ≤ spacing)

/-- The well-formed events. -/
def Instr.wellFormed : Instr → Bool
  | .blockEvent adi => Instr.adiLengthOk adi
  | .portFrameEnd adi => Instr.adiLengthOk adi
  | .frameMark spacing => Instr.spacingOk spacing
  | .resetnLow => true
  | .startUp => true
  | .startUpReadComplete _ => true
  | .receptionStart => true
  | .blankedRxvFall => true
  | .frameArrival => true
  | .airTick => true
  | .presenceCountExpiry => true
  | .offerCountExpiry => true
  | .listeningPeriodExpiry => true
  | .clashWaitExpiry => true
  | .listenOnlyRetry => true
  | .windowClose => true
  | .heardTimeout _ => true
  | .stale _ => true
  | .peerLost _ => true
  | .cbsyRise => true
  | .cbsyFall => true
  | .gapExpiry => true
  | .transmissionEnd => true
  | .queueLapse _ => true
  | .driftWindowClose _ => true
  | .computationComplete => true
  | .missedMark => true
  | .tagWriteStart => true
  | .writeTransactionEnd => true
  | .writeTimeEnd => true
  | .writeCompletion _ _ => true
  | .byteComplete _ => true

end Sys2Proof
end

