-- ==== Sys2Proof/Tests/Slice0.lean ====
section
/-! SUPPORT. The model's own tests: what WellFormed refuses, worked cases of the spec (the comment
names the section a value is taken from), and for each statement that has hypotheses a state and
operands that meet them. -/

set_option Elab.async false

namespace Sys2Proof.Tests

open Sys2Proof.Machine

/-! ## States and frames to test on -/

/-- The state an event leaves. -/
def after (c : Instr) (s : State) : State :=
  match exec c s with
  | .next t => t
  | .fault _ => s
  | .refused _ => s

/-- A BUD in ACTIVE with number 2 and tag 4C1D, its port LOCKED in frame 0, its table empty. -/
def station : State :=
  { State.reset with
    phase := .running
    receive := { ReceiveSide.powerOn with state := .ready }
    transmit := { TransmitSide.powerOn with state := .idle }
    control := { StationControl.powerOn 7 with selfState := .active, number := some 2, tag := 0x4C1D }
    lap := lockedLap Lap.powerOn }

/-- The station in another self state, with its timer. -/
def stationIn (control : StationControl) : State := { station with control := control }

/-- An UNPAIRED station's control. -/
def unpaired : StationControl := StationControl.powerOn 7

/-- The control of a station in CLASHED with number 2, its clash wait at `n`. -/
def clashed (n : Nat) : StationControl :=
  { station.control with selfState := .clashed, clashWait := some n }

/-- The control of a station in STARTING, its start timer at 63. -/
def starting : StationControl :=
  { station.control with selfState := .starting, number := none, startTimer := some 63 }

/-- The control of a station in LISTEN-ONLY, its retry count at 255. -/
def listening : StationControl :=
  { station.control with selfState := .listenOnly, number := none, retryCount := some 255 }

/-- The bits sampled of one byte, bit 7 first. -/
def sampledBits (b : Byte) : Vector Bool 8 := Vector.ofFn fun j => b.getLsbD (7 - j.val)

/-- The bits on SMI of an image. -/
def smiOf (image : Image) : Vector Bool 256 :=
  Vector.ofFn fun i => (image.toList.getD (i.val / 8) 0).getLsbD (7 - i.val % 8)

/-- The state with a reception of these bytes about to end. -/
def hearing (bytes : List Byte) (s : State) : State := { s with rxv := true, receive := received bytes }

/-- The header of a peer's frame: a BUD at a number, in tag 4C1D. -/
def header (number : Station) (unitId : UnitId) : HeaderFill :=
  { cls := .near, number := number, tag := 0x4C1D, sequence := 812, unitId := unitId, role := .bud, selfState := .active }

/-- The frame a receiver reads from an announcement. -/
def announced (h : HeaderFill) (a : AnnounceFrame) : AirFrame :=
  readFrame (match a with | .presence => .presence | .offer => .offer) (announceFrameBytes h a)

/-- A HOLD heard from a number. -/
def heldBytes (h : HeaderFill) : List Byte := audioFrameBytes h (.hold 812 .underrun)

/-- A slot with a block of one value. -/
def slot (seq : Seq) (x : Sample) : Slot := { seq := seq, samples := Vector.replicate 64 x }

/-- An ADMITTED NEAR peer with this queue. -/
def admitted (q : Queue) : Peer :=
  { Peer.powerOn with entry := { Entry.powerOn with state := .admitted, admission := 3 }, queue := q }

/-- A peer with an entry in this state, its silence count at `n`, its queue IDLE. -/
def silent (state : EntryState) (admission n : Nat) : Peer :=
  { Peer.powerOn with entry := { Entry.powerOn with state := state, admission := admission, silence := n } }

/-- A PLAYING queue at (100, o) with these slots and a last good block of 1000. -/
def playing (o : Fin 64) (slots : List Slot) : Queue :=
  { Queue.powerOn with
    state := .playing, slots := slots, start := some 100, cursor := some { block := 100, offset := o }
    lastGood := Vector.replicate 64 1000 }

/-- A queue in PRIMING that holds these slots from W on. -/
def priming (slots : List Slot) (start : Option Seq) : Queue :=
  { Queue.powerOn with state := .priming, slots := slots, start := start }

/-- The station with seven entries that are not FREE: all but its own number's. -/
def crowded : State :=
  { station with peers := (Vector.replicate 8 (silent .heard 1 0)).set 2 Peer.powerOn }

/-- The bits of a port frame of four slots of 16 bits whose slot 3 carries `w`. -/
def adiWith (w : BitVec 16) : List Bool :=
  List.replicate 48 false ++ (List.range 16).map fun i => w.getLsbD (15 - i)

/-- The station at the end of port frame 63, its held control word `w`. -/
def atBlockEnd (w : BitVec 16) (s : State) : State :=
  { s with
    lap := { s.lap with frameCounter := 63, assembly := List.replicate 63 0, heldWord := w }
    engine := { s.engine with trimStep := wordTrim w } }

/-! ## WellFormed refuses each ill-formed operand -/

theorem test_refuses_short_port_frame : (Instr.blockEvent (List.replicate 31 false)).wellFormed = false := by decide

theorem test_refuses_long_port_frame : (Instr.portFrameEnd (List.replicate 257 false)).wellFormed = false := by decide +kernel

theorem test_refuses_adjacent_marks : (Instr.frameMark 1).wellFormed = false := by decide

theorem test_takes_a_whole_port_frame : (Instr.portFrameEnd (List.replicate 64 false)).wellFormed = true := by decide

/-! ## Worked cases -/

/-- R6, the check value of the frame check. -/
theorem test_crc_check_value :
    crcOf [0x31, 0x32, 0x33, 0x34, 0x35, 0x36, 0x37, 0x38, 0x39] = 0x29B1#16 := by decide +kernel

/-- Section 1.5, case A: 5000 and -7000 take exponent 6 and decode to 4992 and -6976. -/
theorem test_block_code_case_a :
    let b : Block := ((Vector.replicate 64 0).set 0 (BitVec.ofInt 16 (-7000))).set 1 5000
    blockExponent b = 6 ∧ ((encodeMantissas 6 b)[0].toInt, (encodeMantissas 6 b)[1].toInt) = (-109, 78) := by
  decide +kernel

/-- Section 1.5, case C: 3 and -3 at e = 1 round upward. -/
theorem test_block_code_case_c : rawMantissa 1 3 = 2 ∧ rawMantissa 1 (-3) = -1 ∧ rawMantissa 1 200 = 100 := by decide

/-- Section 1.5, case D: 16319 takes e = 7 and 16320 takes e = 8. -/
theorem test_block_code_case_d :
    blockExponent ((Vector.replicate 64 0).set 0 16319) = 7 ∧
    blockExponent ((Vector.replicate 64 0).set 0 16320) = 8 := by decide +kernel

/-- Section 1.5, case E: full scale saturates to 127 at e = 8. -/
theorem test_block_code_case_e :
    saturateMantissa (rawMantissa 8 32767) = 127 ∧ saturateMantissa (rawMantissa 8 (-32768)) = -128 := by decide

/-- Section 5.12: the fade of 1000 and of -3. -/
theorem test_fade :
    [1, 2, 3, 4].map (fun c => (fadedBlock c ((Vector.replicate 64 1000).set 1 (-3)))[0].toInt) = [750, 500, 250, 0] ∧
    [1, 2, 3, 4].map (fun c => (fadedBlock c ((Vector.replicate 64 1000).set 1 (-3)))[1].toInt) = [-2, -1, -1, 0] := by
  decide +kernel

/-- Section 5.11: the means of a slip and a stretch. -/
theorem test_mean :
    meanSample 201 300 = 251 ∧ meanSample 100 201 = 151 ∧ meanSample (-5) (-4) = -4 ∧ meanSample (-5) (-6) = -5 := by
  decide

/-- Section 5.11, row 4: SLIP at (486, 63) passes two blocks and ends at (488, 0). -/
theorem test_slip_crosses_two_blocks :
    let q : Queue :=
      { playing 63 [slot 486 1, slot 487 2] with
        cursor := some { block := 486, offset := 63 }, start := some 486, correction := some .slip }
    let p := takePeer Settings.default (admitted q)
    p.queue.cursor = some { block := 488, offset := 0 } ∧ p.queue.slots = [] := by decide +kernel

/-- Section 5.9: the classes of blocks against a window that wraps. -/
theorem test_window_wraps :
    let q := priming [slot 4095 0, slot 0 0, slot 1 0] (some 4095)
    [0, 6, 7, 4093].map (windowTest 4095 q) = [.duplicate, .inWindow, .ahead, .late] ∧
    [2050, 2051].map (windowTest 3 (priming [] (some 3))) = [.ahead, .late] := by decide +kernel

/-- Section 6.6: the decisions at D = 3 and L = 128. -/
theorem test_drift_decision :
    [520, 511, 384, 383, 300].map (fun sum => driftDecision Settings.default sum none) =
      [some .slip, none, none, some .stretch, some .stretch] := by decide

/-- Section 7.8: block levels at a gate floor of 64. -/
theorem test_meter :
    meterLevel 64 (Vector.replicate 64 64) = 64 ∧ meterLevel 64 ((Vector.replicate 64 64).set 5 63) = 0 ∧
    meterLevel 64 (Vector.replicate 64 0x8000#16) = 32767 := by decide +kernel

/-- Section 7.9: the rise to 999 and the fall from it. -/
theorem test_smoothing :
    smoothLevel 1000 0 = 500 ∧ smoothLevel 1000 937 = 968 ∧ smoothLevel 1000 999 = 999 ∧
    smoothLevel 0 999 = 936 ∧ smoothLevel 0 15 = 14 := by decide

/-- Section 7.10: shares of three inputs. -/
theorem test_shares :
    [6000, 3000, 0].map (nearTarget 32768 9000 3) = [21845, 10922, 0] ∧ nearTarget 8192 0 3 0 = 2730 := by decide

/-- An input of a mix at one sample value. -/
def mixed (source : InputSource) (x : Int) (gain : Nat) : MixInput :=
  { source := source, block := Vector.replicate 64 (BitVec.ofInt 16 x), gain := gain }

/-- Section 8.8: a four-input mix, handed in another order, at trim step 3. -/
theorem test_four_input_mix :
    let inputs := [mixed (.peer .near 5) 12000 10922, mixed (.peer .near 3) (-6000) 21845,
      mixed .sidetone 1000 4096, mixed (.peer .far 0) 20000 32768]
    let sum := sumAt inputs 0 9
    sum.acc.toInt = 659450000 ∧ sum.saturated = false ∧ outputSample sum.acc (trimGainOf 3) = 10086 := by
  decide +kernel

/-- Section 8.9: the third addition saturates. -/
theorem test_order_of_saturation :
    let inputs := [mixed .sidetone 32767 4096, mixed (.peer .far 0) 32767 32768, mixed (.peer .far 1) 32767 32768,
      mixed (.peer .near 2) (-32768) 12288, mixed (.peer .near 3) (-32768) 12288, mixed (.peer .near 5) (-32768) 20480]
    let sum := sumAt inputs 0 0
    sum.acc.toInt = 671088639 ∧ sum.saturated = true ∧ outputSample sum.acc (trimGainOf 0) = 20480 := by
  decide +kernel

/-- Section 8.10: the clamp before the trim. -/
theorem test_clip_then_trim :
    let acc := (sumAt [mixed (.peer .far 0) 30000 32768, mixed (.peer .far 1) 30000 32768] 0 0).acc
    clips (roundSum acc) = true ∧ outputSample acc (trimGainOf 6) = 8231 := by decide +kernel

/-- Section 8.10: small sums. -/
theorem test_rounding :
    [16383, 16384, -16384, -16385].map (fun v => roundSum (BitVec.ofInt 32 v)) = [0, 1, 0, -1] := by decide

/-- The station of section 10.6. -/
def reporting : State :=
  { station with
    settings := { Settings.default with scanLimit := 3 }
    flags := { Flags.clear with checkFail := true, foreign := true }
    peers := ((Vector.replicate 8 Peer.powerOn).set 0
      { admitted (playing 0 []) with entry := { (admitted (playing 0 [])).entry with cls := .far } }).set 3
        (admitted (playing 0 [])) |>.set 5 (admitted (playing 0 [])) }

/-- Section 10.6: the words of a turn. -/
theorem test_status_words :
    [0, 1, 2, 3, 4, 5, 6].map (fun i => statusWord { reporting with scanIndex := i }) =
      [0x0486, 0x1A00, 0x2000, 0x3A80, 0x4000, 0x5000, 0x6A00] ∧
    nextScanIndex 3 6 = 0 := by decide +kernel

/-- Section 10.6: GAP with LATE, and DUPLICATE suppressed by AHEAD. -/
theorem test_peer_word_conditions :
    let shown := fun c : Conditions =>
      peerWord 3 { admitted (playing 0 []) with entry := { (admitted (playing 0 [])).entry with conditions := c } }
    shown { Conditions.empty with late := true, gap := true } = 0x6A48 ∧
    shown { Conditions.empty with duplicate := true, ahead := true } = 0x6A10 := by decide

/-! ## One event at a time -/

/-- R36: RESETN low. -/
theorem test_resetn_low : (after .resetnLow crowded).control.selfState = .unpaired := by decide

/-- R172: the start-up read is 34 bytes, 272 SCK periods. -/
theorem test_start_up : (after .startUp State.reset).store.transaction.map sckPeriods = some 272 := by decide

/-- An image with marker 6D, role GATEWAY, SLAVE with 8 slots of 24 bits, tag 4C1D. -/
def image : Image :=
  ((((((Vector.replicate 32 0).set 0 0x6D).set 1 1).set 3 0xC8).set 10 9).set 24 0x4C).set 25 0x1D

/-- R174: fields decoded, D above its range taken as 6. -/
theorem test_start_up_read_complete :
    let t := after (.startUpReadComplete (smiOf image)) { State.reset with phase := .reading }
    (t.control.tag, t.control.selfState, t.settings.slotCount, t.settings.slotWidth, t.settings.targetDepth, t.lap.lock) =
      (0x4C1D#16, .starting, 8, 24, 6, .unlocked) := by decide +kernel

/-- R11: RXV rises in READY. -/
theorem test_reception_start : (after .receptionStart station).receive.state = .receiving := by decide

/-- R1: the first bit sampled is bit 7. -/
theorem test_byte_complete_first_bit :
    (after (.byteComplete #v[true, false, false, false, false, false, true, true])
      { station with receive := received [] }).receive.buffer = [0x83] := by decide +kernel

/-- R11: a byte beyond the 71st is counted and not kept. -/
theorem test_byte_complete_beyond_the_buffer :
    let r := (after (.byteComplete (sampledBits 5))
      { station with receive := { received [] with buffer := List.replicate 71 0, byteCount := 71 } }).receive
    (r.buffer.length, r.byteCount) = (71, 72) := by decide +kernel

/-- R11: RXV falls in BLANKED outside a transmission. -/
theorem test_blanked_rxv_fall :
    (after .blankedRxvFall { station with receive := { station.receive with state := .blanked } }).receive.state = .ready := by
  decide

/-- Section 1.10, row 3: a HOLD with reason field 0 is malformed. -/
theorem test_frame_arrival_malformed :
    (after .frameArrival (hearing (withCrc (headerBytes .hold (header 0 9) 812 0)) station)).flags.malformed = true := by
  decide +kernel

/-- R57: a first frame makes its entry HEARD. -/
theorem test_frame_arrival_heard :
    (peerAt (after .frameArrival (hearing (heldBytes (header 5 9)) station)) 5).entry.state = .heard := by
  decide +kernel

/-- Section 2.9, row 6: the tick places VOICE 502 and the PRESENCE, in either order of the table. -/
theorem test_air_tick_places_both : ∀ o : Bool,
    let t := airTickInOrder o { station with
      scheduler := { station.scheduler with
        sequence := 502, held := some { seq := 502, samples := zeroBlock }, presenceCount := 255 } }
    (isVoice t.scheduler.audio, t.scheduler.announce, t.scheduler.presenceCount, t.scheduler.held) =
      (true, some .presence, 0, none) := by decide +kernel

/-- R40, R41: the listening period ends with the preferred number. -/
theorem test_listening_period_expiry :
    (after .listeningPeriodExpiry (stationIn starting)).control.number = some 0 := by decide +kernel

/-- R46: the clash wait ends with the number kept. -/
theorem test_clash_wait_expiry :
    (after .clashWaitExpiry (stationIn (clashed 63))).control.selfState = .active := by decide +kernel

/-- R47: a retry with every entry in use stays in LISTEN-ONLY. -/
theorem test_listen_only_retry :
    let t := after .listenOnlyRetry
      { stationIn listening with peers := Vector.replicate 8 (silent .heard 1 0) }
    (t.control.selfState, t.control.retryCount) = (.listenOnly, some 0) := by decide +kernel

/-- R29, R38: the entry to CLASHED discards a pending VOICE and keeps a pending HOLD. -/
theorem test_clash_discards_a_voice :
    let clash := fun f : AudioFrame =>
      (enterClashed { station with scheduler := { station.scheduler with audio := some f } }).scheduler.audio
    clash (.voice 5 0 (Vector.replicate 64 0)) = none ∧ clash (.hold 5 .muted) = some (.hold 5 .muted) := by
  decide +kernel

/-- R28, R49: the window closes and a pending OFFER goes. -/
theorem test_window_close :
    let t := after .windowClose
      { stationIn { station.control with window := some 14999 } with
        scheduler := { station.scheduler with announce := some .offer } }
    (t.control.window, t.scheduler.announce) = (none, none) := by decide

/-- R61: an ADMITTED entry at 250 goes STALE and its queue IDLE. -/
theorem test_stale :
    let p := peerAt (after (.stale 4) (setPeer 4
      { admitted (playing 0 []) with entry := { (admitted (playing 0 [])).entry with silence := 249 } } station)) 4
    (p.entry.state, p.entry.silence, p.queue.state) = (.stale, 250, .idle) := by decide

/-- R63: a STALE entry at 500 is lost. -/
theorem test_peer_lost :
    (after (.peerLost 4) (setPeer 4 (silent .stale 3 499) station)).flags.peerLost = true := by decide

/-- Section 2.10: station 3's gap is 125 µs. -/
theorem test_cbsy_fall_gap :
    (after .cbsyFall
      { stationIn { station.control with number := some 3 } with
        cbsy := true, transmit := { station.transmit with state := .defer } }).transmit.gapTimer = some 125 := by decide

/-- Section 2.9, row 7: the PRESENCE goes before the VOICE. -/
theorem test_gap_expiry_sends_the_announcement :
    let t := after .gapExpiry
      { station with
        transmit := { station.transmit with state := .gap, gapTimer := some 100 }
        scheduler := { station.scheduler with announce := some .presence, audio := some (.hold 502 .muted) } }
    (t.scheduler.announce, t.scheduler.audio.isSome, t.receive.state, t.transmit.onAir.map List.length) =
      (none, true, .blanked, some 12) := by decide +kernel

/-- R54, section 9.7 row 2: PAIR and MUTE at a block event. -/
theorem test_block_event_takes_its_word :
    let t := takeControl (controlWord Settings.default (adiWith 0xA9C0)) station
    (t.control.window, muted t, t.engine.trimStep) = (some 0, true, 3) := by decide +kernel

/-- R91: the twenty-fifth concealment. -/
theorem test_queue_lapse :
    let t := after (.queueLapse 4)
      (atBlockEnd 0 (setPeer 4 (admitted { playing 0 [] with concealed := 24 }) station))
    ((peerAt t 4).queue.state, (peerAt t 4).entry.state, t.flags.peerLapse) = (.priming, .admitted, true) := by
  decide +kernel

/-- R139: a completion that saturates sets ACC_SAT. -/
theorem test_computation_complete :
    (after .computationComplete
      { station with
        engine := beginEngine [mixed .sidetone 32767 32768, mixed (.peer .far 0) 32767 32768,
          mixed (.peer .far 1) 32767 32768] station.engine }).flags.accSat = true := by decide +kernel

/-- Section 9.6: the fourth well-spaced mark locks the port. -/
theorem test_frame_mark_locks :
    (after (.frameMark 64)
      { station with
        settings := { Settings.default with clock := .slave }
        lap := { Lap.powerOn with lock := .unlocked, markCount := 3 } }).lap.lock = .locked := by decide +kernel

/-- R154: a missed mark loses lock. -/
theorem test_missed_mark :
    (after .missedMark { station with settings := { Settings.default with clock := .slave } }).flags.lapLost = true := by
  decide

/-- R176: the write transaction of tag 4C1D. -/
theorem test_tag_write_start :
    (after .tagWriteStart { station with store := { station.store with writeQueue := some 0x4C1D } }).store.transaction.map
      StoreTransaction.sent = some [0xC3, 24, 0x4C, 0x1D] := by decide

/-- Section 10.7: a read-back of 0000 sets STORE_FAIL. -/
theorem test_write_completion_differs :
    (after (.writeCompletion (sampledBits 0) (sampledBits 0))
      { station with
        store := { station.store with inProgress := some 0x4C1D, writeState := .checking } }).flags.storeFail = true := by
  decide

/-- R152: the bit clocks of the first frame of a MASTER port with EARLY position, and AFRM in them. -/
theorem test_first_early_mark :
    (bitClocks station).take 2 = [.extra, .ofFrame 0] ∧ (bitClocks station).length = 65 ∧
    (bitClocks station).map (afrmPin station) = .high :: List.replicate 63 .low ++ [.high] ∧
    (bitClocks (atBlockEnd 0 station)).length = 64 := by decide +kernel

/-- R148: the capture slot's first 16 bits, the first as bit 15. -/
theorem test_port_frame_end :
    (after (.portFrameEnd (true :: List.replicate 63 false)) station).lap.assembly = [0x8000#16] := by decide +kernel

/-! ## Witnesses: states and operands that meet the hypotheses of a statement -/

theorem blockEvent_runs {adi : List Bool} {s : State} (h : s.lap.lock = .locked) (hf : s.lap.frameCounter = 63) :
    exec (.blockEvent adi) s = .next (blockEvent adi s) := by
  simp [exec, execBlockEvent, h, hf]

theorem witness_StepTakesFrontEvent : station.pending = [] := rfl

/-- RESETN low, a running station whose sides rest, one at the end of port frame 63, and every count at the
last value from which it does not expire. -/
theorem witness_EventsThatCannotOccurChangeNothing :
    (station.phase ≠ .held ∧ station.phase ≠ .reading ∧ State.reset.phase ≠ .running) ∧
    (hearing [] station).receive.state = .receiving ∧ station.receive.state ≠ .receiving ∧
    station.transmit.state ≠ .gap ∧ station.transmit.state ≠ .sending ∧
    State.reset.lap.lock ≠ .locked ∧
    ({ station with lap := { station.lap with frameCounter := 62 } } : State).lap.frameCounter < 63 ∧
    (atBlockEnd 0 station).lap.frameCounter = 63 ∧
    station.settings.clock = .master ∧ station.engine.state = .idle ∧ station.store.writeQueue = none ∧
    station.store.writeState ≠ .writing ∧ station.store.writeState ≠ .waiting ∧ station.store.writeState ≠ .checking ∧
    (stationIn starting).scheduler.presenceCount < 255 ∧ sends starting.selfState = false ∧
    (∀ n ∈ ({ starting with startTimer := some 62 } : StationControl).startTimer, n < 63) ∧
    (∀ n ∈ (clashed 62).clashWait, n < 63) ∧
    (∀ n ∈ ({ listening with retryCount := some 254 } : StationControl).retryCount, n < 255) ∧
    (∀ n ∈ ({ station.control with window := some 14998 } : StationControl).window, n < 14999) ∧
    ((peerAt station 0).entry.state ≠ .heard ∧ (peerAt station 0).entry.state ≠ .admitted ∧
      (peerAt station 0).entry.state ≠ .stale ∧ (peerAt station 0).queue.state ≠ .playing) ∧
    (peerAt (setPeer 4 (silent .heard 1 62) station) 4).entry.silence < 63 := by decide +kernel

theorem witness_IdentifierAndSettingsLast :
    ∃ (c : Instr) (s t : State), exec c s = .next t ∧ ¬ PowersOn c :=
  ⟨.cbsyRise, station, _, rfl, by simp [PowersOn]⟩

/-- A block event whose word has CLEAR 1 where the held word has it already. -/
theorem witness_FlagStaysSetUntilClearOrPowerOn :
    ∃ (c : Instr) (s t : State) (f : Flag), exec c s = .next t ∧ ¬ PowersOn c ∧
      (∃ w : BitVec 16, TakesWord w c s ∧ wordClear w = true) ∧
      (∀ w : BitVec 16, TakesWord w c s → wordClear w = true → wordClear s.lap.heldWord = true) ∧
      hasFlag s.flags f = true :=
  ⟨.blockEvent (adiWith 0xA010), { atBlockEnd 0xA010 station with flags := { Flags.clear with clash := true } }, _,
    .clash, blockEvent_runs rfl rfl, by simp [PowersOn],
    ⟨0xA010, ⟨adiWith 0xA010, ⟨rfl, rfl, rfl⟩, by decide +kernel, by decide⟩, by decide⟩,
    fun _ _ _ => by decide, by decide⟩

/-- A block event that takes a word, one whose word is invalid, and an event that is none. -/
theorem witness_CounterAndHeldWordMoveAtBlockEventsOnly :
    (∃ t : State, exec (.blockEvent (adiWith 0xA000)) (atBlockEnd 0 station) = .next t) ∧
    TakesWord 0xA000 (.blockEvent (adiWith 0xA000)) (atBlockEnd 0 station) ∧
    (BlockEventWith (adiWith 0x6000) (.blockEvent (adiWith 0x6000)) (atBlockEnd 0 station) ∧
      ¬ ∃ w : BitVec 16, TakesWord w (.blockEvent (adiWith 0x6000)) (atBlockEnd 0 station)) ∧
    ¬ ∃ adi : List Bool, BlockEventWith adi .cbsyRise station := by
  refine ⟨⟨_, blockEvent_runs rfl rfl⟩, ⟨adiWith 0xA000, ⟨rfl, rfl, rfl⟩, by decide +kernel, by decide⟩, ⟨⟨rfl, rfl, rfl⟩, ?_⟩, ?_⟩
  · rintro ⟨w, adi, ⟨ha, -⟩, hw, hv⟩
    cases ha
    have h : controlWord (atBlockEnd 0 station).settings (adiWith 0x6000) = some 0x6000 := by decide +kernel
    rw [h] at hw
    cases hw
    exact absurd hv (by decide)
  · rintro ⟨_, h, -⟩
    cases h

theorem witness_EventsLeaveThePartsTheyDoNotReach :
    (∃ t : State, exec .cbsyRise station = .next t) ∧ .peers ∉ reaches .cbsyRise ∧ .flags ∉ reaches .windowClose ∧
    .store ∉ reaches .gapExpiry :=
  ⟨⟨_, rfl⟩, by decide, by decide, by decide⟩

theorem witness_ResetnLowAndStartUp :
    State.reset.phase = .held ∧ State.reset.store.transaction = none ∧
    (after .startUp State.reset).store.transaction ≠ none := by decide

/-- Images of a SLAVE with a tag, of a MASTER with WITH position, and of a MASTER with the default EARLY. -/
theorem witness_StartUpReadCompleteStartsTheBlocks :
    ({ State.reset with phase := .reading } : State).phase = .reading ∧
    (Carries image (smiOf image) ∧ tagOf image ≠ 0 ∧ (settingsOf image).clock = .slave) ∧
    ((settingsOf (image.set 3 0x04)).clock = .master ∧ (settingsOf (image.set 3 0x04)).markPosition = .onBitZero) ∧
    (tagOf (Vector.replicate 32 0) = 0 ∧ (settingsOf (Vector.replicate 32 0)).clock = .master ∧
      (settingsOf (Vector.replicate 32 0)).markPosition = .early) := by decide +kernel

theorem witness_ImageIsDecodedByItsTableOrDefaulted :
    image[0] = 0x6D#8 ∧ (Vector.replicate 32 0xFF : Image)[0] ≠ 0x6D#8 ∧
    Carries (Vector.replicate 32 0xFF) (Vector.replicate 256 true) := by decide +kernel

theorem witness_ReceptionMovesTheReceiveSide :
    station.receive.state = .ready ∧ State.reset.receive.state = .off ∧
    (sendBytes [] station).receive.state = .blanked ∧ (sendBytes [] station).transmit.state = .sending ∧
    ({ station with receive := { station.receive with state := .blanked } } : State).receive.state = .blanked ∧
    station.transmit.state ≠ .sending ∧ (hearing [] station).receive.state = .receiving ∧
    (hearing [] station).receive.bits = [] ∧
    ∀ j : Fin 8, (sampledBits 0x83)[j] = (0x83#8).getLsbD (7 - j.val) := by decide +kernel

/-- The lengths at which the frame check can first pass and last fail. -/
theorem witness_FrameCheckComparesTheLastTwoBytes :
    (hearing [] station).receive.byteCount = 0 ∧ (hearing [1, 2] station).receive.state = .receiving ∧
    (hearing [1, 2] station).receive.byteCount ≠ 0 ∧
    frameCheckPasses (received (withCrc [5])) = true ∧ ([1, 2] : List Byte).length ≤ 2 ∧
    frameCheckPasses (received ([5] ++ [0, 0])) = false := by decide +kernel

theorem witness_FramesSentAreReadBackWhole :
    (8 : Nat) ≤ 8 ∧ (header 5 9).cls = roleClass (header 5 9).role ∧ sends (header 5 9).selfState = true ∧
    (header 5 9).tag ≠ 0 := by decide

/-- A block with the greatest sample that is not saturated, and one with the least that is. -/
theorem witness_BlockCodeErrorIsBoundedByTheExponent :
    let a : Block := (Vector.replicate 64 0).set 3 32639
    let b : Block := (Vector.replicate 64 0).set 3 32640
    1 ≤ blockExponent a ∧ a[3].toInt < 32640 ∧ 32640 ≤ b[3].toInt ∧ blockExponent zeroBlock = 0 := by decide +kernel

/-- No whole byte, a bad CRC, a bad form, another tag, and a HOLD at an UNPAIRED station. -/
theorem witness_DiscardedArrivalsSetTheirFlagAndNothingElse :
    (hearing [] station).receive.byteCount = 0 ∧
    frameCheckPasses (hearing [1, 2, 3] station).receive = false ∧
    (frameCheckPasses (hearing (withCrc [1]) station).receive = true ∧
      formCheck (hearing (withCrc [1]) station).receive = none) ∧
    (ArrivesAs (announced { header 0 9 with tag := 0x7700 } .offer)
        (hearing (announceFrameBytes { header 0 9 with tag := 0x7700 } .offer) station) ∧
      (announced { header 0 9 with tag := 0x7700 } .offer).tag ≠ station.control.tag) ∧
    (ArrivesAs (announced (header 0 9) .presence)
        (hearing (announceFrameBytes (header 0 9) .presence) (stationIn unpaired)) ∧
      (announced (header 0 9) .presence).kind ≠ .offer) := by decide +kernel

theorem witness_OfferIsAdoptedWhileTheWindowIsOpen :
    (∀ w : Bool,
      let s := hearing (announceFrameBytes (header 0 9) .offer)
        (stationIn { unpaired with window := if w then some 14999 else none })
      ArrivesAs (announced (header 0 9) .offer) s ∧ s.control.selfState = .unpaired ∧
        s.control.window.isSome = w) ∧ (announced (header 0 9) .offer).kind = .offer := by decide +kernel

/-- A frame at a FREE entry with six in use, and with seven; one at a HEARD entry. -/
theorem witness_AcceptedFrameMovesItsEntry :
    let f := announced (header 5 9) .offer
    let heard := hearing (announceFrameBytes (header 5 9) .offer)
    let six := heard (setPeer 5 Peer.powerOn crowded)
    let seven := heard (setPeer 2 (silent .heard 1 0) (setPeer 5 Peer.powerOn crowded))
    (ArrivesAccepted f six ∧ MovesNoRecord f six ∧ (peerAt six 5).entry.state = .free ∧ entriesInUse six.peers = 6) ∧
    (ArrivesAccepted f seven ∧ MovesNoRecord f seven ∧ (peerAt seven 5).entry.state = .free ∧
      entriesInUse seven.peers = 7) ∧
    (ArrivesAccepted f (heard crowded) ∧ (peerAt (heard crowded) 5).entry.state ≠ .free) := by decide +kernel

/-- A known unit at entry 3 is heard at the FREE entry 5. -/
theorem witness_PresenceCarriesTheRecordOfAKnownUnit :
    let f := announced (header 5 9) .presence
    let known : Peer := { silent .stale 3 300 with entry := { (silent .stale 3 300).entry with unitId := some 9 } }
    let s := hearing (announceFrameBytes (header 5 9) .presence) (setPeer 3 known station)
    ArrivesAccepted f s ∧ MovesRecordFrom 3 f s ∧ (peerAt s 3).entry.state ≠ .free := by decide +kernel

/-- The two ends of each class of the window, and a queue that primes, one that holds W unset, and one
that is IDLE. -/
theorem witness_OfferedBlockIsClassedByTheWindow :
    let q := priming [slot 10 0] (some 10)
    (q.state ≠ .idle ∧ q.start = some 10) ∧
    ((17 - 10 : Seq).toNat = 7 ∧ (¬ ∃ y ∈ q.slots, y.seq = 17) ∧ InSequence 10 q.slots) ∧
    ((10 - 10 : Seq).toNat = 0 ∧ ∃ y ∈ q.slots, y.seq = 10) ∧
    (18 - 10 : Seq).toNat = 8 ∧ (2057 - 10 : Seq).toNat = 2047 ∧ (2058 - 10 : Seq).toNat = 2048 ∧
    (9 - 10 : Seq).toNat = 4095 ∧
    (q.state = .priming ∧ 2 ≤ q.slots.length + 1 ∧ q.slots.length + 1 < 3) ∧
    (priming [] none).start = none ∧ Queue.powerOn.state = .idle := by decide +kernel

/-- A SLIP at offset 63 with both blocks held, a STRETCH at offset 0 with one, the depth counts on both
sides of a window's close, and a queue that is not PLAYING. -/
theorem witness_PlayedTakeReadsItsSpan :
    let slip := { playing 63 [slot 100 1, slot 101 2] with correction := some .slip }
    let stretch := { playing 0 [slot 100 1] with correction := some .stretch }
    (slip.state = .playing ∧ 0 < Settings.default.driftWindow ∧
      ∀ j ∈ List.range ((63 + takeLength slip.correction - 1) / 64 + 1),
        ∃ x ∈ slip.slots, x.seq = 100 + BitVec.ofNat 12 j) ∧
    (stretch.state = .playing ∧
      ∀ j ∈ List.range ((0 + takeLength stretch.correction - 1) / 64 + 1),
        ∃ x ∈ stretch.slots, x.seq = 100 + BitVec.ofNat 12 j) ∧
    (¬ Settings.default.driftWindow ≤ 126 + 1 ∧ Settings.default.driftWindow ≤ 127 + 1) ∧
    Peer.powerOn.queue.state ≠ .playing := by decide +kernel

/-- Both blocks of a span missing one, with a block beyond the cursor and with none, at the counts 0 and 23. -/
theorem witness_ConcealedTakeFadesTheLastGoodBlock :
    let gap := playing 1 [slot 100 1, slot 107 2]
    let dry := { playing 0 [] with concealed := 23 }
    (gap.state = .playing ∧ gap.concealed = 0 ∧ 1 ≤ (1 + takeLength gap.correction - 1) / 64 ∧
      (¬ ∃ x ∈ gap.slots, x.seq = 100 + BitVec.ofNat 12 1) ∧
      ∃ x ∈ gap.slots, 1 ≤ (x.seq - 100).toNat ∧ (x.seq - 100).toNat ≤ 7) ∧
    (dry.state = .playing ∧ dry.concealed < 24 ∧ 0 < Settings.default.driftWindow ∧
      (¬ ∃ x ∈ dry.slots, x.seq = 100 + BitVec.ofNat 12 0) ∧
      ¬ ∃ x ∈ dry.slots, 1 ≤ (x.seq - 100).toNat ∧ (x.seq - 100).toNat ≤ 7) ∧
    (¬ Settings.default.driftWindow ≤ 126 + 1 ∧ Settings.default.driftWindow ≤ 127 + 1) := by decide +kernel

/-- The second block of a span missing, in the state in which the block event occurs. -/
theorem witness_TwentyFifthConcealmentLapsesTheQueue :
    let p := admitted { playing 1 [slot 100 1] with concealed := 24 }
    let s := atBlockEnd 0 (setPeer 4 p station)
    ((peerAt s 4).queue.state = .playing ∧ (peerAt s 4).queue.cursor = some { block := 100, offset := 1 } ∧
      (peerAt s 4).queue.concealed = 24 ∧ 1 ≤ (1 + takeLength (peerAt s 4).queue.correction - 1) / 64 ∧
      ¬ ∃ x ∈ (peerAt s 4).queue.slots, x.seq = 100 + BitVec.ofNat 12 1) ∧
    0 < s.settings.driftWindow ∧ s.lap.lock = .locked ∧ s.lap.frameCounter = 63 := by decide +kernel

theorem witness_DriftWindowCloseSetsTheCorrection :
    let p := { admitted (playing 0 [slot 100 1]) with drift := { depthSum := 511, depthCount := 127 } }
    let s := atBlockEnd 0 (setPeer 4 p station)
    s.lap.lock = .locked ∧ s.lap.frameCounter = 63 ∧ 0 < s.settings.driftWindow ∧ (peerAt s 4).queue.state = .playing ∧
    (peerAt s 4).queue.cursor = some { block := 100, offset := 0 } ∧ (peerAt s 4).queue.concealed < 24 ∧
    (∀ j ∈ [0], ∃ x ∈ (peerAt s 4).queue.slots, x.seq = 100 + BitVec.ofNat 12 j) ∧
    (0 + takeLength (peerAt s 4).queue.correction - 1) / 64 = 0 ∧
    (peerAt s 4).drift.depthCount + 1 = s.settings.driftWindow ∧
    (s.settings.targetDepth + 1) * s.settings.driftWindow = (peerAt s 4).drift.depthSum + (peerAt s 4).queue.slots.length := by
  decide +kernel

theorem witness_LevelsAreMeanMagnitudesSmoothed : (999 : Nat) < 1000 ∧ (1000 : Nat) ≤ 1000 := by decide

/-- Shares with a total above 0, with a total of 0, and alone; gains within a step of the target, and
one beyond it on either side. -/
theorem witness_SharesAndRampKeepTheGains :
    ([6000, 3000, 0] : List Nat) ≠ [] ∧ 0 < ([6000, 3000, 0] : List Nat).sum ∧ ([0, 0] : List Nat).sum = 0 ∧ ([5] : List Nat).length = 1 ∧
    ((2048 : Nat) ≤ 0 + 2048 ∧ (0 : Nat) ≤ 2048 + 2048) ∧ (0 : Nat) + 2048 < 2049 ∧
    (2049 : Nat) - 2049 + 2048 < 2049 ∧ (32768 : Nat) ≤ 32768 := by decide

/-- The station at the end of frame 63 with a peer PLAYING. -/
def mixing : State := atBlockEnd 0xA000 (setPeer 4 (admitted (playing 0 [slot 100 1])) station)

theorem mixing_sound : QueuesSound mixing := by decide +kernel

/-- A peer in the mix of each class, one that is not, and a word that mutes. -/
theorem witness_BlockEventLevelsItsInputs :
    let far := setPeer 5 { admitted (playing 0 []) with entry := { (admitted (playing 0 [])).entry with cls := .far } }
    (QueuesSound (far mixing) ∧ (far mixing).lap.lock = .locked ∧ (far mixing).lap.frameCounter = 63 ∧
      (far mixing).settings.role = .bud ∧
      ∃ t : State, exec (.blockEvent (adiWith 0xA000)) (far mixing) = .next t) ∧
    (let t := after (.blockEvent (adiWith 0xA000)) (far mixing)
     (peerAt t 4).entry.state = .admitted ∧ (peerAt t 4).queue.state = .playing ∧ (peerAt t 4).entry.cls = .near ∧
     (peerAt t 5).queue.state = .playing ∧ (peerAt t 5).entry.cls = .far ∧
     (peerAt t 0).queue.state ≠ .playing ∧ wordMute t.lap.heldWord = false) ∧
    wordMute (after (.blockEvent (adiWith 0xA800)) mixing).lap.heldWord = true :=
  ⟨⟨by decide +kernel, rfl, rfl, rfl, _, blockEvent_runs rfl rfl⟩, by decide +kernel, by decide +kernel⟩

/-- The own number heard with the own identifier, and with another. -/
theorem witness_OwnNumberHeardInActiveOpensAClash : ∀ u ∈ [7, 9],
    let f := announced (header 2 (BitVec.ofNat 32 u)) .presence
    let s := hearing (announceFrameBytes (header 2 (BitVec.ofNat 32 u)) .presence) station
    ArrivesOnClashPath f s ∧ s.control.selfState = .active ∧ s.control.unitId = 7 ∧ f.unitId.toNat = u := by decide +kernel

/-- The own identifier, a higher one, and a lower one, with a number FREE and with none. -/
theorem witness_PresenceSettlesAClashByIdentifier :
    (∀ u ∈ [7, 8, 6],
      let f := announced (header 2 (BitVec.ofNat 32 u)) .presence
      let s := hearing (announceFrameBytes (header 2 (BitVec.ofNat 32 u)) .presence) (stationIn (clashed 0))
      ArrivesOnClashPath f s ∧ s.control.selfState = .clashed ∧ s.control.number = some 2 ∧ f.unitId.toNat = u ∧
        f.kind = .presence) ∧
    (0 ≠ (2 : Station) ∧ (peerAt (stationIn (clashed 0)) 0).entry.state = .free) ∧
    ∀ i : Station, i ≠ 2 → (peerAt crowded i).entry.state ≠ .free := by decide +kernel

/-- The preferred number open, taken, and every number taken. -/
theorem witness_NumberChoicePrefersTheStoredNumber :
    ((peerAt station 0).entry.state = .free ∧ (peerAt station 0).entry.refused = false) ∧
    ((peerAt crowded 0).entry.state ≠ .free ∧ (peerAt crowded 2).entry.state = .free ∧
      ∀ i : Station, i < 2 → (peerAt crowded i).entry.state ≠ .free) ∧
    ∀ k : Station, (peerAt (setPeer 2 (silent .heard 1 0) crowded) k).entry.state ≠ .free := by decide +kernel

/-- A listening period and a retry at their limits, with a number to take and with none. -/
theorem witness_ListeningAndRetriesEndInANumberOrListenOnly :
    (starting.selfState = .starting ∧ starting.startTimer = some 63 ∧ listening.selfState = .listenOnly ∧
      listening.retryCount = some 255) ∧
    (∀ c ∈ [starting, listening], (stationIn c).phase = .running ∧ numberChoice (stationIn c) = some 0 ∧
      numberChoice { stationIn c with peers := Vector.replicate 8 (silent .heard 1 0) } = none) := by decide +kernel

theorem witness_ClashWaitExpiryKeepsTheNumber :
    let s := stationIn (clashed 63)
    s.phase = .running ∧ s.control.selfState = .clashed ∧ s.control.number = some 2 ∧
    s.control.clashWait = some 63 := by decide

theorem witness_WindowClosesAtItsLimit :
    let s := stationIn { station.control with window := some 14999 }
    s.phase = .running ∧ s.control.window = some 14999 ∧ s.scheduler.announce ≠ some .offer ∧
    ({ s with scheduler := { s.scheduler with announce := some .offer } } : State).scheduler.announce = some .offer := by
  decide

theorem witness_SilenceLimitsMoveTheirEntry :
    station.phase = .running ∧
    (∀ x ∈ [(EntryState.heard, 63), (.admitted, 249), (.stale, 499)],
      let e := (peerAt (setPeer 4 (silent x.1 3 x.2) station) 4).entry
      e.state = x.1 ∧ e.silence = x.2) := by decide +kernel

/-- Each cadence; the states that send, and one that does not. -/
theorem witness_AirTickMakesItsAudioFrame :
    ({ station with settings := { Settings.default with cadence := .onData } } : State).settings.cadence = .onData ∧
    sends station.control.selfState = true ∧ station.phase = .running ∧ station.settings.cadence = .paced ∧ station.control.selfState = .active ∧
    (clashed 63).selfState = .clashed ∧ sends starting.selfState = false ∧ station.scheduler.audio = none := by decide

/-- Both sides of every silence limit. -/
theorem witness_AirTickCountsTheSilenceOfEveryEntry :
    station.phase = .running ∧
    (∀ x ∈ [(EntryState.free, 0), (.heard, 62), (.heard, 63), (.admitted, 248), (.admitted, 249), (.stale, 498), (.stale, 499)],
      let e := (peerAt (setPeer 4 (silent x.1 3 x.2) station) 4).entry
      e.state = x.1 ∧ e.silence = x.2) := by decide +kernel

/-- The station with every count of ACTIVE at its last value and an OFFER pending. -/
def counting : State :=
  { stationIn { station.control with window := some 14999 } with
    scheduler := { station.scheduler with presenceCount := 255, offerCount := 31, announce := some .offer } }

/-- Every self state, and every timer below its limit and at it. -/
def timed : List StationControl :=
  [unpaired, station.control, clashed 62, clashed 63, { starting with startTimer := some 62 }, starting,
    { listening with retryCount := some 254 }, listening]

/-- A PRESENCE about to be placed in IDLE, and one pending in each state that holds it. -/
theorem witness_AirTickCountsTimersAndAnnouncements_link :
    timed.all (fun c => decide (LinkSound (stationIn c))) ∧
    (let pending := fun (t : TransmitState) (gap : Option Nat) (cbsy : Bool) =>
      ({ station with
          cbsy := cbsy, scheduler := { station.scheduler with announce := some .presence }
          transmit := { state := t, gapTimer := gap, onAir := none } } : State)
     LinkSound (pending .defer none true) ∧ LinkSound (pending .gap (some 100) false)) := by decide +kernel

theorem witness_AirTickCountsTimersAndAnnouncements :
    (counting.phase = .running ∧ counting.control.selfState = .active ∧ StationSound counting ∧ TimersSound counting) ∧
    timed.all (fun c => decide (StationSound (stationIn c)) && decide (TimersSound (stationIn c))) ∧
    (station.store.writeState = .idle ∧
      ({ station with store := { station.store with writeQueue := some 0 } } : State).store.writeQueue = some 0) := by
  decide +kernel

theorem witness_AnnounceCountsPlaceTheirFrames :
    let s : State :=
      { stationIn { station.control with window := some 0 } with
        scheduler := { station.scheduler with presenceCount := 255, offerCount := 31 } }
    s.phase = .running ∧ s.control.number = some 2 ∧ s.control.selfState = .active ∧
    s.scheduler.presenceCount = 255 ∧ s.control.window ≠ none ∧ s.scheduler.offerCount = 31 ∧ s.scheduler.announce ≠ some .presence ∧
    ({ s with scheduler := { s.scheduler with announce := some .presence } } : State).scheduler.announce = some .presence := by
  decide

/-- The station with its transmit side in a state and a frame in each position. -/
def accessIn (t : TransmitState) : State :=
  { station with
    transmit := { station.transmit with state := t }
    scheduler := { station.scheduler with announce := some .presence, audio := some (.hold 502 .muted) } }

theorem witness_ChannelBusyMovesDeferAndGap :
    (accessIn .gap).transmit.state = .gap ∧ (accessIn .defer).transmit.state = .defer ∧
    (accessIn .defer).control.number = some 2 ∧ (accessIn .sending).transmit.state ≠ .gap ∧
    (accessIn .sending).transmit.state ≠ .defer := by decide

theorem witness_GapExpirySendsTheChosenFrame :
    ((accessIn .gap).cbsy = false ∧ (accessIn .gap).control.number = some 2 ∧
      (accessIn .gap).scheduler.announce = some .presence) ∧
    (let s : State := { accessIn .gap with scheduler := { station.scheduler with audio := some (.hold 502 .muted) } }
     s.transmit.state = .gap ∧ s.scheduler.announce = none ∧ s.scheduler.audio = some (.hold 502 .muted)) ∧
    (let s : State := { accessIn .gap with cbsy := true }
     s.transmit.state = .gap ∧ s.cbsy = true) := by decide +kernel

/-- With a number and frames pending, and after a FORGET on the air. -/
theorem witness_TransmissionEndReturnsTheSides :
    ((accessIn .sending).transmit.state = .sending ∧ (accessIn .sending).control.number = some 2) ∧
    ((forget (accessIn .sending)).transmit.state = .sending ∧ (forget (accessIn .sending)).control.number = none ∧
      (forget (accessIn .sending)).scheduler.audio = none ∧ (forget (accessIn .sending)).scheduler.announce = none) := by
  decide +kernel

/-- A port with a playback block in its last frame and slot, and one in its lead-in; the last frame
before 63; a capture slot in the frame, and one beyond it. -/
theorem witness_PortFrameCarriesItsSamples :
    (let b : Playback := { lane0 := Vector.replicate 64 1, lane1 := zeroBlock }
     let s : State := { station with lap := { station.lap with leadIn := false, playback := some b, frameCounter := 63 } }
     s.lap.lock = .locked ∧ s.lap.leadIn = false ∧ s.lap.playback = some b ∧ s.lap.frameCounter = (63 : Fin 64).val ∧
     3 < s.settings.slotCount ∧ 15 < s.settings.slotWidth ∧ station.lap.leadIn = true) ∧
    ({ station with lap := { station.lap with frameCounter := 62 } } : State).lap.frameCounter < 63 ∧
    station.lap.lock = .locked ∧ station.settings.captureSlot.val < station.settings.slotCount ∧
    ({ Settings.default with captureSlot := 4 } : Settings).slotCount ≤
      ({ Settings.default with captureSlot := 4 } : Settings).captureSlot.val := by decide

/-- Words that are invalid, that raise nothing, and that raise CLEAR, FORGET and PAIR. -/
theorem witness_ControlWordActsByItsFields :
    (0x6FFF#16).extractLsb' 12 4 ≠ 0b1010#4 ∧
    (∀ w ∈ [0xA000, 0xA010, 0xA020, 0xA040, 0xA060], (BitVec.ofNat 16 w).extractLsb' 12 4 = 0b1010#4) ∧
    ((0xA010#16).getLsbD 4 = true ∧ (0xA020#16).getLsbD 5 = true ∧ (0xA040#16).getLsbD 6 = true ∧
      station.lap.heldWord = 0) ∧
    (let s : State := { stationIn unpaired with settings := { Settings.default with role := .gateway } }
     s.settings.role = .gateway ∧ s.control.selfState = .unpaired ∧ s.lap.heldWord = 0) := by decide +kernel

theorem witness_BlockEventHandsOverTheCaptureBlock :
    mixing.lap.lock = .locked ∧ mixing.lap.frameCounter = 63 ∧ mixing.settings.cadence = .paced ∧
    mixing.lap.assembly.length = 63 ∧ mixing.settings.captureSlot.val < mixing.settings.slotCount ∧
    ({ Settings.default with captureSlot := 4 } : Settings).slotCount ≤ 4 ∧
    ({ mixing with settings := { Settings.default with cadence := .onData } } : State).settings.cadence = .onData := by
  decide +kernel

/-- A scan index of the rotation, one that names a PEER word, its end, and a take that lapses its queue. -/
theorem witness_BlockEventBeginsTheNextBlock :
    let lapsing := setPeer 4 (admitted { playing 0 [] with concealed := 24 }) mixing
    mixing.lap.lock = .locked ∧ mixing.lap.frameCounter = 63 ∧ mixing.scanIndex ≤ 10 ∧
    ({ mixing with scanIndex := 10 } : State).settings.scanLimit + 3 ≤ 10 ∧ (10 : Nat) = 3 + (7 : Station).val ∧
    (peerAt (takeControl (some 0xA000) lapsing) 4).queue.concealed = 24 ∧
    (after (.blockEvent (adiWith 0xA000)) lapsing).flags.peerLapse = true ∧
    (after (.blockEvent (adiWith 0xA000)) mixing).flags.peerLapse = false := by decide +kernel

/-- Both inputs are handed: the peer that plays, and SIDETONE. -/
theorem witness_ComputationTakesThePlayingPeersAndSidetone :
    QueuesSound mixing ∧ mixing.lap.lock = .locked ∧ mixing.lap.frameCounter = 63 ∧
    (after (.blockEvent (adiWith 0xA000)) mixing).engine.inputs.map MixInput.source = [.sidetone, .peer .near 4] :=
  ⟨mixing_sound, rfl, rfl, by decide +kernel⟩

theorem witness_TwoProductsAreExactAndTrimNeverRaises :
    (mixed .sidetone 1 32768).gain ≤ 32768 ∧ (mixed .sidetone 1 32768).gain = 32768 ∧ (-32768 : Int) ≤ 32767 := by decide

theorem witness_OrderOfAdditionIsFixed :
    (([mixed (.peer .near 3) 1 1, mixed .sidetone 1 1, mixed (.peer .far 3) 1 1] : List MixInput).map
      MixInput.source).Nodup := by decide +kernel

theorem witness_CompletionReadiesTheBlockAndSetsItsFlags :
    ({ station with engine := beginEngine [] station.engine } : State).engine.state = .computing := by decide

/-- A SLAVE port with a mark count, UNLOCKED, or LOCKED. -/
def slavePort (lock : LockState) (marks : Nat) : State :=
  { station with
    settings := { Settings.default with clock := .slave }
    lap := { Lap.powerOn with lock := lock, markCount := marks } }

theorem witness_MarksGainAndLoseLock :
    (∀ m ∈ [0, 1, 2, 3], (slavePort .unlocked m).settings.clock = .slave ∧
      (slavePort .unlocked m).lap.lock = .unlocked ∧ (slavePort .unlocked m).lap.markCount = m) ∧
    (slavePort .locked 0).lap.lock = .locked ∧
    (64 = (slavePort .locked 0).settings.slotCount * (slavePort .locked 0).settings.slotWidth ∧
      63 ≠ (slavePort .locked 0).settings.slotCount * (slavePort .locked 0).settings.slotWidth) := by decide

theorem witness_AttnFollowsTheEnabledFlags :
    State.reset.phase ≠ .running ∧ station.phase = .running ∧ station.settings.attnDrive = .openDrain ∧
    ({ Settings.default with attnDrive := .pushPull } : Settings).attnDrive = .pushPull ∧
    ({ State.reset with phase := .reading } : State).phase = .reading ∧
    ∃ t : State, exec .cbsyRise station = .next t ∧ ¬ PowersOn .cbsyRise :=
  ⟨by decide, rfl, rfl, rfl, rfl, _, rfl, by simp [PowersOn]⟩

theorem witness_TagWriteGoesThroughItsPhases :
    ∀ w ∈ [WriteState.idle, .writing, .waiting, .checking],
      let s : State :=
        { station with
          store := { station.store with writeQueue := some 0x4C1D, inProgress := some 0x4C1D, writeState := w } }
      s.phase = .running ∧ s.store.writeState = w ∧ s.store.writeQueue = some 0x4C1D ∧
        s.store.inProgress = some 0x4C1D := by decide

/-- The mixing station with its block event at the front of the queue. -/
def stepping : State := { mixing with pending := [.blockEvent (adiWith 0xA000)] }

theorem stepping_link : LinkSound stepping := by decide +kernel

theorem stepping_timed : StationSound stepping ∧ TimersSound stepping := by decide +kernel

theorem stepping_listed : EntriesSound stepping ∧ TableSound stepping := by decide +kernel

theorem stepping_queued : DriftSound stepping ∧ LevelsSound stepping := by decide +kernel

theorem stepping_ordered : SlotsInSequence stepping := by decide +kernel

theorem stepping_ported : PortSound stepping ∧ StoreSound stepping ∧ ScanSound stepping := by decide +kernel

/-- A step from a state that is sound in every part. -/
theorem witness_StepKeepsEverySoundness :
    ((StationSound stepping ∧ TimersSound stepping) ∧ (EntriesSound stepping ∧ TableSound stepping) ∧
      (DriftSound stepping ∧ LevelsSound stepping) ∧ SlotsInSequence stepping ∧ LinkSound stepping ∧
      PortSound stepping ∧ StoreSound stepping ∧ ScanSound stepping) ∧ ∃ t : State, step stepping = .next t :=
  ⟨⟨stepping_timed, stepping_listed, stepping_queued, stepping_ordered, stepping_link, stepping_ported⟩, _, blockEvent_runs rfl rfl⟩

end Sys2Proof.Tests
end

/-! # The frame of every event -/

namespace Sys2Proof.Machine

/-- `t` differs from `s` in these parts at most, and no event has joined or left the queue. -/
structure LeavesAllBut (ps : List Part) (s t : State) : Prop where
  phase : .phase ∉ ps → t.phase = s.phase
  settings : .settings ∉ ps → t.settings = s.settings
  rxv : .rxv ∉ ps → t.rxv = s.rxv
  cbsy : .cbsy ∉ ps → t.cbsy = s.cbsy
  receive : .receive ∉ ps → t.receive = s.receive
  transmit : .transmit ∉ ps → t.transmit = s.transmit
  scheduler : .scheduler ∉ ps → t.scheduler = s.scheduler
  control : .control ∉ ps → t.control = s.control
  peers : .peers ∉ ps → t.peers = s.peers
  sidetone : .sidetone ∉ ps → t.sidetone = s.sidetone
  engine : .engine ∉ ps → t.engine = s.engine
  lap : .lap ∉ ps → t.lap = s.lap
  flags : .flags ∉ ps → t.flags = s.flags
  scanIndex : .scanIndex ∉ ps → t.scanIndex = s.scanIndex
  store : .store ∉ ps → t.store = s.store
  pending : t.pending = s.pending

variable {s t : State}

/-- No event reaches a part that its rules do not name, whatever case of its meaning applies. -/
theorem exec_leavesAllBut (c : Instr) (h : exec c s = .next t) : LeavesAllBut (reaches c) s t := by
  cases c with
  | resetnLow =>
    obtain rfl := execResetnLow_cases h
    constructor <;> simp [reaches]
  | startUp =>
    obtain rfl | ⟨-, rfl⟩ := execStartUp_cases h <;>
      constructor <;> simp [reaches]
  | startUpReadComplete smi =>
    obtain rfl | ⟨-, ht⟩ := execStartUpReadComplete_cases h
    · constructor <;> simp [reaches]
    · rw [ht]; constructor <;> simp [reaches]
  | receptionStart =>
    obtain ⟨-, rfl⟩ | ⟨-, rfl⟩ | ⟨-, rfl⟩ := execReceptionStart_cases h <;>
      constructor <;> simp [reaches]
  | blankedRxvFall =>
    obtain ⟨-, rfl⟩ | ⟨-, -, rfl⟩ | ⟨-, rfl⟩ := execBlankedRxvFall_cases h <;>
      constructor <;> simp [reaches]
  | frameArrival =>
    obtain ⟨-, rfl⟩ | ⟨-, -, rfl⟩ | ⟨-, -, rfl⟩ := execFrameArrival_cases h <;>
      constructor <;> simp [reaches]
  | airTick =>
    obtain ⟨-, rfl⟩ | ⟨-, rfl⟩ := execAirTick_cases h <;>
      constructor <;> simp [reaches]
  | presenceCountExpiry =>
    obtain rfl | ⟨-, -, rfl⟩ := execPresenceCountExpiry_cases h <;>
      constructor <;> simp [reaches]
  | offerCountExpiry =>
    obtain rfl | ⟨-, -, rfl⟩ := execOfferCountExpiry_cases h <;>
      constructor <;> simp [reaches]
  | listeningPeriodExpiry =>
    obtain rfl | ⟨-, -, rfl⟩ := execListeningPeriodExpiry_cases h <;>
      constructor <;> simp [reaches]
  | clashWaitExpiry =>
    obtain rfl | ⟨-, -, rfl⟩ := execClashWaitExpiry_cases h <;>
      constructor <;> simp [reaches]
  | listenOnlyRetry =>
    obtain rfl | ⟨-, -, rfl⟩ := execListenOnlyRetry_cases h <;>
      constructor <;> simp [reaches]
  | windowClose =>
    obtain rfl | ⟨-, -, rfl⟩ := execWindowClose_cases h <;>
      constructor <;> simp [reaches]
  | heardTimeout k =>
    obtain rfl | ⟨-, -, -, rfl⟩ := execHeardTimeout_cases h <;>
      constructor <;> simp [reaches]
  | stale k =>
    obtain rfl | ⟨-, -, -, rfl⟩ := execStale_cases h <;>
      constructor <;> simp [reaches]
  | peerLost k =>
    obtain rfl | ⟨-, -, -, rfl⟩ := execPeerLost_cases h <;>
      constructor <;> simp [reaches]
  | cbsyRise =>
    obtain ⟨-, rfl⟩ | ⟨-, rfl⟩ := execCbsyRise_cases h <;>
      constructor <;> simp [reaches]
  | cbsyFall =>
    obtain ⟨-, rfl⟩ | ⟨-, rfl⟩ := execCbsyFall_cases h <;>
      constructor <;> simp [reaches]
  | gapExpiry =>
    obtain rfl | ⟨-, -, rfl⟩ := execGapExpiry_cases h <;>
      constructor <;> simp [reaches]
  | transmissionEnd =>
    obtain ⟨-, rfl⟩ | ⟨-, -, rfl⟩ | ⟨-, -, rfl⟩ := execTransmissionEnd_cases h <;>
      constructor <;> simp [reaches]
  | blockEvent adi =>
    obtain ⟨-, rfl⟩ | ⟨-, rfl⟩ := execBlockEvent_cases h <;>
      constructor <;> simp [reaches]
  | queueLapse k =>
    obtain rfl | ⟨-, -, rfl⟩ := execQueueLapse_cases h <;>
      constructor <;> simp [reaches]
  | driftWindowClose k =>
    obtain rfl | ⟨-, -, rfl⟩ := execDriftWindowClose_cases h <;>
      constructor <;> simp [reaches]
  | computationComplete =>
    obtain ⟨-, rfl⟩ | ⟨-, rfl⟩ := execComputationComplete_cases h <;>
      constructor <;> simp [reaches]
  | frameMark n =>
    obtain rfl | ⟨-, -, rfl⟩ | ⟨-, -, rfl⟩ := execFrameMark_cases h <;>
      constructor <;> simp [reaches]
  | missedMark =>
    obtain rfl | ⟨-, -, rfl⟩ | ⟨-, -, rfl⟩ := execMissedMark_cases h <;>
      constructor <;> simp [reaches]
  | tagWriteStart =>
    obtain rfl | ⟨-, rfl⟩ := execTagWriteStart_cases h <;>
      constructor <;> simp [reaches]
  | writeTransactionEnd =>
    obtain rfl | ⟨-, rfl⟩ := execWriteTransactionEnd_cases h <;>
      constructor <;> simp [reaches]
  | writeTimeEnd =>
    obtain rfl | ⟨-, rfl⟩ := execWriteTimeEnd_cases h <;>
      constructor <;> simp [reaches]
  | writeCompletion a b =>
    obtain rfl | ⟨-, rfl⟩ := execWriteCompletion_cases h <;>
      constructor <;> simp [reaches]
  | byteComplete rxd =>
    obtain ⟨-, rfl⟩ | ⟨-, rfl⟩ := execByteComplete_cases h <;>
      constructor <;> simp [reaches]
  | portFrameEnd adi =>
    obtain rfl | ⟨-, -, rfl⟩ := execPortFrameEnd_cases h <;>
      constructor <;> simp [reaches]

/-- Settles O7. -/
theorem eventsLeaveThePartsTheyDoNotReach : Obligations.EventsLeaveThePartsTheyDoNotReach := by
  intro c s t h
  obtain ⟨_, _, _, _, _, _, _, _, _, _, _, _, _, _, _, _⟩ := exec_leavesAllBut c h
  refine ⟨?_, ?_, ?_, ?_, ?_, ?_, ?_, ?_, ?_, ?_, ?_, ?_, ?_, ?_, ?_⟩ <;> assumption

/-- Every meaning answers a next state in each branch. -/
theorem exec_completes (c : Instr) (s : State) : Completes (exec c s) := by
  cases c with
  | resetnLow | presenceCountExpiry | offerCountExpiry | listeningPeriodExpiry | clashWaitExpiry
  | listenOnlyRetry | windowClose | heardTimeout | stale | peerLost | queueLapse | driftWindowClose
  | tagWriteStart => exact ⟨_, rfl⟩
  | startUp | startUpReadComplete | receptionStart | frameArrival | airTick | cbsyRise | cbsyFall
  | gapExpiry | transmissionEnd | blockEvent | computationComplete | frameMark | missedMark
  | writeTransactionEnd | writeTimeEnd | writeCompletion | byteComplete | portFrameEnd =>
    simp only [exec, execStartUp, execStartUpReadComplete, execReceptionStart, execFrameArrival,
      execAirTick, execCbsyRise, execCbsyFall, execGapExpiry, execTransmissionEnd, execBlockEvent,
      execComputationComplete, execFrameMark, execMissedMark, execWriteTransactionEnd,
      execWriteTimeEnd, execWriteCompletion, execByteComplete, execPortFrameEnd]
    split <;> exact ⟨_, rfl⟩
  | blankedRxvFall =>
    simp only [exec, execBlankedRxvFall]
    split
    · split <;> exact ⟨_, rfl⟩
    all_goals exact ⟨_, rfl⟩

/-- Settles O2. -/
theorem noEventStopsThePart : Obligations.NoEventStopsThePart := by
  intro c s
  obtain ⟨t, h⟩ := exec_completes c s
  exact ⟨t, h, (exec_leavesAllBut c h).pending⟩

end Sys2Proof.Machine

/-! # The two sides of the link -/

namespace Sys2Proof.Machine

/-! ## The parts of a sound link -/

/-- The receive side against the level of RXV (R11). -/
def ReceiveSound (rxv : Bool) (r : ReceiveSide) : Prop :=
  (r.state = .ready → rxv = false) ∧ (r.state = .receiving → rxv = true) ∧ r.bits = [] ∧
  r.byteCount ≤ 255 ∧ r.buffer.length = min 71 r.byteCount

/-- The two sides against each other: BLANKED while a frame is sent, and OFF together (R13). -/
def SidesAgree (r : ReceiveSide) (t : TransmitSide) : Prop :=
  (t.state = .sending → r.state = .blanked) ∧ (r.state = .off ↔ t.state = .off)

/-- The transmit side against CBSY and whether a frame is pending (R31). -/
def AccessSound (cbsy pending : Bool) (t : TransmitSide) : Prop :=
  (t.onAir.isSome ↔ t.state = .sending) ∧ (t.gapTimer.isSome ↔ t.state = .gap) ∧
  (accessing t.state = true → pending = true) ∧ (t.state = .idle → pending = false) ∧
  (t.state = .gap → cbsy = false) ∧ (t.state = .defer → cbsy = true)

theorem linkSound_iff (s : State) :
    LinkSound s ↔ ReceiveSound s.rxv s.receive ∧ SidesAgree s.receive s.transmit ∧
      AccessSound s.cbsy (framePending s) s.transmit := by
  simp only [ReceiveSound, SidesAgree, AccessSound, and_assoc]

/-- A frame placed: an access has begun, or goes on (R31). -/
theorem AccessSound.begun {c p : Bool} {t : TransmitSide} (h : AccessSound c p t) (n : Option Station) :
    AccessSound c true (accessBegun c n t) := by
  obtain ⟨air, timer, -, -, gap, defer⟩ := h
  unfold accessBegun
  by_cases hi : t.state = .idle
  · rw [if_pos hi]
    have hair : t.onAir = none := by simpa [hi] using air
    cases c <;> simp [AccessSound, hair]
  · rw [if_neg hi]
    exact ⟨air, timer, fun _ => rfl, fun e => absurd e hi, gap, defer⟩

/-- Both positions emptied: an access is abandoned, and a frame on the air goes on (R31, R34). -/
theorem AccessSound.abandoned {c p : Bool} {t : TransmitSide} (h : AccessSound c p t) :
    AccessSound c false (accessAbandoned t) := by
  obtain ⟨air, timer, -, -, gap, defer⟩ := h
  unfold accessAbandoned
  by_cases ha : t.state = .defer ∨ t.state = .gap
  · rw [if_pos ha]
    have hair : t.onAir = none := by rcases ha with ha | ha <;> simpa [ha] using air
    simp [AccessSound, accessing, hair]
  · rw [if_neg ha]
    exact ⟨air, timer, fun e => absurd ((accessing_iff _).1 e) ha, fun _ => rfl, gap, defer⟩

/-- Neither beginning nor abandoning an access takes the side to or from OFF or SENDING. -/
theorem SidesAgree.begun {r : ReceiveSide} {t : TransmitSide} (h : SidesAgree r t) (c : Bool)
    (n : Option Station) : SidesAgree r (accessBegun c n t) := by
  unfold accessBegun
  by_cases hi : t.state = .idle
  · rw [if_pos hi]
    cases c <;> simpa [SidesAgree, hi] using h
  · rwa [if_neg hi]

theorem SidesAgree.abandoned {r : ReceiveSide} {t : TransmitSide} (h : SidesAgree r t) :
    SidesAgree r (accessAbandoned t) := by
  unfold accessAbandoned
  by_cases ha : t.state = .defer ∨ t.state = .gap
  · rw [if_pos ha]
    rcases ha with ha | ha <;> simpa [SidesAgree, ha] using h
  · rwa [if_neg ha]

/-! ## What a change to the pending positions does -/

section Moves

variable {s t : State}

/-- The lines and the receive side are as they were. -/
@[simp] def SameReception (s t : State) : Prop := t.rxv = s.rxv ∧ t.cbsy = s.cbsy ∧ t.receive = s.receive

theorem LinkSound.of_eq (h : LinkSound s) (hr : SameReception s t) (ht : t.transmit = s.transmit)
    (hp : framePending t = framePending s) : LinkSound t := by
  obtain ⟨hx, hc, hr⟩ := hr
  rw [linkSound_iff] at h ⊢
  rwa [hx, hc, hr, ht, hp]

theorem LinkSound.of_begun (h : LinkSound s) (hr : SameReception s t) {n : Option Station}
    (ht : t.transmit = accessBegun s.cbsy n s.transmit) (hp : framePending t = true) : LinkSound t := by
  obtain ⟨hx, hc, hr⟩ := hr
  rw [linkSound_iff] at h ⊢
  obtain ⟨hrec, hag, hacc⟩ := h
  rw [hx, hc, hr, ht, hp]
  exact ⟨hrec, hag.begun _ n, hacc.begun n⟩

theorem LinkSound.of_abandoned (h : LinkSound s) (hr : SameReception s t)
    (ht : t.transmit = accessAbandoned s.transmit) (hp : framePending t = false) : LinkSound t := by
  obtain ⟨hx, hc, hr⟩ := hr
  rw [linkSound_iff] at h ⊢
  obtain ⟨hrec, hag, hacc⟩ := h
  rw [hx, hc, hr, ht, hp]
  exact ⟨hrec, hag.abandoned, hacc.abandoned⟩

end Moves

/-- A state that differs in blocks other than the link's and the Scheduler's has a link as sound. -/
theorem LinkSound.congr {s t : State} (h : LinkSound s) (hr : SameReception s t)
    (ht : t.transmit = s.transmit) (hsch : t.scheduler = s.scheduler) : LinkSound t :=
  h.of_eq hr ht (by simp [framePending, hsch])

/-! ## The shared operations keep the link sound -/

section Operations

variable {s : State}

theorem placeAudio_linkSound (f : AudioFrame) (h : LinkSound s) : LinkSound (placeAudio f s) :=
  h.of_begun (by simp) (placeAudio_transmit f s) (by simp [framePending])

theorem placePresence_linkSound (h : LinkSound s) : LinkSound (placePresence s) :=
  h.of_begun (by simp) (placePresence_transmit s) (by simp [framePending])

theorem enterActive_linkSound (n : Station) (h : LinkSound s) : LinkSound (enterActive n s) :=
  h.of_begun (by simp) (enterActive_transmit n s) (by simp [framePending])

theorem enterClashed_linkSound (h : LinkSound s) : LinkSound (enterClashed s) :=
  h.of_begun (by simp) (enterClashed_transmit s) (by simp [framePending])

theorem enterListenOnly_linkSound (h : LinkSound s) : LinkSound (enterListenOnly s) :=
  h.of_abandoned (by simp) (enterListenOnly_transmit s) (by simp [framePending])

theorem joinGroup_linkSound (tag : Tag) (h : LinkSound s) : LinkSound (joinGroup tag s) :=
  h.of_abandoned (by simp) (joinGroup_transmit tag s) (by simp [framePending, joinGroup])

theorem forget_linkSound (h : LinkSound s) : LinkSound (forget s) :=
  h.of_abandoned (by simp) (forget_transmit s) (by simp [framePending, forget])

/-- An OFFER is placed, or a PRESENCE keeps its place and its access (R26). -/
theorem placeOffer_linkSound (h : LinkSound s) : LinkSound (placeOffer s) := by
  unfold placeOffer
  split
  · exact h
  all_goals exact h.of_begun (by simp) (n := s.control.number) (by simp [startAccess_begins]) (by simp [framePending])

/-- A discarded OFFER abandons an access that was its own alone, and leaves any other (R29, R31). -/
theorem discardOffer_linkSound (h : LinkSound s) : LinkSound (discardOffer s) := by
  have ht := discardOffer_transmit s
  have hs := discardOffer_scheduler s
  by_cases ho : s.scheduler.announce = some .offer
  · by_cases ha : s.scheduler.audio = none
    · exact h.of_abandoned (by simp) (by simpa [ho, ha] using ht) (by simp [framePending, hs, ho, ha])
    · exact h.of_eq (by simp) (by simpa [ho, ha] using ht)
        (by simp [framePending, hs, ho, Option.isSome_iff_ne_none, ha])
  · exact h.congr (by simp) (by simpa [ho] using ht) (by simp [hs, ho])

theorem closePairing_linkSound (h : LinkSound s) : LinkSound (closePairing s) := discardOffer_linkSound h

theorem openPairing_linkSound (h : LinkSound s) : LinkSound (openPairing s) := by
  unfold openPairing
  split
  · exact joinGroup_linkSound _ h
  · exact h

/-! ## The air tick -/

theorem pacedTransmit_linkSound (h : LinkSound s) : LinkSound (pacedTransmit s) := by
  have hdrop : LinkSound (dropHeld s) := h
  have hflag : LinkSound (setFlag .underrun s) := h
  unfold pacedTransmit
  split
  case h_2 =>
    unfold pacedActive
    split
    · exact placeAudio_linkSound _ hdrop
    · exact placeAudio_linkSound _ h
    · split
      · exact placeAudio_linkSound _ h
      · exact placeAudio_linkSound _ hflag
  case h_3 =>
    unfold pacedClashed
    split
    · exact placeAudio_linkSound _ h
    · exact placeAudio_linkSound _ hdrop
    · split
      · exact placeAudio_linkSound _ h
      · exact placeAudio_linkSound _ hflag
  all_goals exact h

theorem presenceExpiry_linkSound (h : LinkSound s) : LinkSound (presenceExpiry s) := placePresence_linkSound h

theorem presenceTick_linkSound (h : LinkSound s) : LinkSound (presenceTick s) := by
  unfold presenceTick
  split
  · exact presenceExpiry_linkSound h
  · split <;> exact h

theorem offerExpiry_linkSound (h : LinkSound s) : LinkSound (offerExpiry s) := placeOffer_linkSound h

theorem offerTick_linkSound (h : LinkSound s) : LinkSound (offerTick s) := by
  unfold offerTick
  split
  · exact offerExpiry_linkSound h
  · split <;> exact h

theorem listeningExpiry_linkSound (h : LinkSound s) : LinkSound (listeningExpiry s) := by
  unfold listeningExpiry
  split
  · exact enterActive_linkSound _ h
  · exact enterListenOnly_linkSound h

theorem clashWaitExpires_linkSound (h : LinkSound s) : LinkSound (clashWaitExpires s) := by
  unfold clashWaitExpires
  split
  · exact enterActive_linkSound _ h
  · exact h

theorem retryChoice_linkSound (h : LinkSound s) : LinkSound (retryChoice s) := by
  unfold retryChoice
  split
  · rename_i n _
    exact (enterActive_linkSound n h).congr (by simp) (by simp) (by simp)
  · exact h

theorem controlTick_linkSound (h : LinkSound s) : LinkSound (controlTick s) := by
  unfold controlTick
  split
  · split
    · exact listeningExpiry_linkSound h
    · exact h
  · split
    · exact clashWaitExpires_linkSound h
    · exact h
  · split
    · exact retryChoice_linkSound h
    · exact h
  · exact h
  · exact h

theorem windowTick_linkSound (h : LinkSound s) : LinkSound (windowTick s) := by
  unfold windowTick
  split
  · exact closePairing_linkSound h
  · exact h

theorem tableTick_linkSound (h : LinkSound s) : LinkSound (tableTick s) :=
  h.congr (by simp) (by simp) (by simp)

theorem storeTick_linkSound (h : LinkSound s) : LinkSound (storeTick s) :=
  h.congr (by simp) (by simp) (by simp)

theorem airTickInOrder_linkSound (o : Bool) (h : LinkSound s) : LinkSound (airTickInOrder o s) := by
  have hs := offerTick_linkSound (presenceTick_linkSound (pacedTransmit_linkSound h))
  refine storeTick_linkSound (windowTick_linkSound ?_)
  cases o with
  | true => exact tableTick_linkSound (controlTick_linkSound hs)
  | false => exact controlTick_linkSound (tableTick_linkSound hs)

/-! ## The block event -/

theorem takeControl_linkSound (w : Option (BitVec 16)) (h : LinkSound s) : LinkSound (takeControl w s) := by
  unfold takeControl
  split
  · exact h
  split
  case isFalse => exact h
  rename_i w _
  have hclear : LinkSound (if rises wordClear s.lap.heldWord w then clearFlags s else s) := by
    split <;> exact h
  have hforget : ∀ u : State, LinkSound u →
      LinkSound (if rises wordForget s.lap.heldWord w then forget u else u) := fun u hu => by
    split
    · exact forget_linkSound hu
    · exact hu
  have hopen : ∀ u : State, LinkSound u →
      LinkSound (if rises wordPair s.lap.heldWord w then openPairing u else u) := fun u hu => by
    split
    · exact openPairing_linkSound hu
    · exact hu
  exact (hopen _ (hforget _ hclear)).congr ⟨rfl, rfl, rfl⟩ rfl rfl

theorem onDataTransmit_linkSound (b : HeldBlock) (h : LinkSound s) : LinkSound (onDataTransmit b s) := by
  unfold onDataTransmit
  split
  case h_1 | h_2 | h_3 | h_4 => exact placeAudio_linkSound _ h
  all_goals exact h

theorem holdBlock_linkSound (b : HeldBlock) (h : LinkSound s) : LinkSound (holdBlock b s) := by
  unfold holdBlock
  split
  · exact h
  · exact h.of_eq (by simp) (by simp) (by simp [framePending])

theorem captureHandover_linkSound (b : Block) (h : LinkSound s) : LinkSound (captureHandover b s) := by
  unfold captureHandover
  simp only []
  split
  · exact holdBlock_linkSound _ h
  · exact onDataTransmit_linkSound _ h

theorem blockEvent_linkSound (adi : List Bool) (h : LinkSound s) : LinkSound (blockEvent adi s) :=
  (captureHandover_linkSound (completedCapture adi s) (takeControl_linkSound (controlWord s.settings adi) h)).congr
    (by simp [blockEvent]) (by simp [blockEvent]) (by simp [blockEvent])

/-! ## Reception -/

/-- A sound receive side that agrees with the transmit side takes the place of another (R11, R13). -/
theorem LinkSound.of_receive {t : State} (h : LinkSound s) (hc : t.cbsy = s.cbsy) (ht : t.transmit = s.transmit)
    (hsch : t.scheduler = s.scheduler) (hr : ReceiveSound t.rxv t.receive) (ha : SidesAgree t.receive t.transmit) :
    LinkSound t := by
  obtain ⟨-, -, hacc⟩ := (linkSound_iff s).1 h
  have hp : framePending t = framePending s := by simp [framePending, hsch]
  exact (linkSound_iff t).2 ⟨hr, ha, by rwa [hc, ht, hp]⟩

/-- While the receive side is in a reception or READY the transmit side is neither OFF nor sending. -/
theorem SidesAgree.of_open {r : ReceiveSide} {t : TransmitSide} (h : SidesAgree r t) {q : ReceiveSide}
    (hoff : r.state ≠ .off) (hsend : t.state ≠ .sending) (hq : q.state ≠ .off) : SidesAgree q t :=
  ⟨fun e => absurd e hsend, fun e => absurd e hq, fun e => absurd (h.2.2 e) hoff⟩

theorem SidesAgree.not_sending {r : ReceiveSide} {t : TransmitSide} (h : SidesAgree r t)
    (hr : r.state ≠ .blanked) : t.state ≠ .sending := fun e => hr (h.1 e)

theorem receptionStart_linkSound {t : State} (h : LinkSound s) (he : execReceptionStart s = .next t) :
    LinkSound t := by
  obtain ⟨hrec, hag, -⟩ := (linkSound_iff s).1 h
  obtain ⟨-, rfl⟩ | ⟨hs, rfl⟩ | ⟨hs, rfl⟩ := execReceptionStart_cases he
  · exact h
  · exact h.of_receive rfl rfl rfl (by simp [ReceiveSound])
      (hag.of_open (by simp [hs]) (hag.not_sending (by simp [hs])) (by simp))
  · refine h.of_receive rfl rfl rfl ?_ hag
    obtain ⟨-, -, hrest⟩ := hrec
    rcases hs with hs | hs <;> simpa [ReceiveSound, hs] using hrest

theorem blankedRxvFall_linkSound {t : State} (h : LinkSound s) (he : execBlankedRxvFall s = .next t) :
    LinkSound t := by
  obtain ⟨⟨-, -, hrest⟩, hag, -⟩ := (linkSound_iff s).1 h
  obtain ⟨-, rfl⟩ | ⟨hs, hn, rfl⟩ | ⟨hs, rfl⟩ := execBlankedRxvFall_cases he
  · exact h
  · exact h.of_receive rfl rfl rfl ⟨by simp, by simp, hrest⟩ (hag.of_open (by simp [hs]) hn (by simp))
  · refine h.of_receive rfl rfl rfl ?_ hag
    rcases hs with hs | hs | ⟨hs, -⟩ <;> simpa [ReceiveSound, hs] using hrest

/-- A whole byte keeps the buffer as long as the count, up to 71 (R11). -/
theorem receiveByte_receiveSound {rxv : Bool} {r : ReceiveSide} (b : Byte) (h : ReceiveSound rxv r) :
    ReceiveSound rxv (receiveByte b r) := by
  obtain ⟨hready, hrecv, -, hcount, hlen⟩ := h
  refine ⟨hready, hrecv, rfl, ?_, ?_⟩
  · simp only [receiveByte]; omega
  · by_cases hb : r.byteCount < 71 <;> simp [receiveByte, hb, hlen] <;> omega

theorem byteComplete_linkSound {t : State} {rxd : Vector Bool 8} (h : LinkSound s)
    (he : execByteComplete rxd s = .next t) : LinkSound t := by
  obtain ⟨-, rfl⟩ | ⟨-, rfl⟩ := execByteComplete_cases he
  · exact h
  · obtain ⟨hrec, hag, -⟩ := (linkSound_iff s).1 h
    obtain ⟨-, -, hbits, -⟩ := id hrec
    rw [receiveBits_of_none hbits]
    exact h.of_receive rfl rfl rfl (receiveByte_receiveSound _ hrec) hag

/-- The end of a reception, before its frame is judged (R12). -/
theorem endReception_linkSound (h : LinkSound s) (hs : s.receive.state = .receiving) :
    LinkSound (endReception s) := by
  obtain ⟨⟨-, -, -, hrest⟩, hag, -⟩ := (linkSound_iff s).1 h
  exact h.of_receive rfl rfl rfl ⟨fun _ => rfl, by simp [endReception], rfl, hrest⟩
    (hag.of_open (by simp [hs]) (hag.not_sending (by simp [hs])) (by simp [endReception]))

theorem settleClash_linkSound (u : UnitId) (h : LinkSound s) : LinkSound (settleClash u s) := by
  unfold settleClash
  split
  · split
    · exact enterActive_linkSound _ h
    · exact h
  · split
    · split
      · exact enterActive_linkSound _ h
      · exact enterListenOnly_linkSound h
    · exact h

theorem clashPath_linkSound (f : AirFrame) (h : LinkSound s) : LinkSound (clashPath f s) := by
  unfold clashPath
  split
  · split
    · exact h
    · exact enterClashed_linkSound h
  · split
    · exact settleClash_linkSound _ h
    · exact h
  all_goals exact h

theorem adoptOffer_linkSound (f : AirFrame) (h : LinkSound s) : LinkSound (adoptOffer f s) := by
  unfold adoptOffer
  split
  · exact joinGroup_linkSound _ (closePairing_linkSound h)
  · exact h

theorem judgeFrame_linkSound (h : LinkSound s) : LinkSound (judgeFrame s) := by
  rcases judgeFrame_cases s with e | ⟨_, e⟩ | ⟨f, _, _, ⟨_, _, e⟩ | ⟨_, _, _, e⟩ | ⟨_, _, _, e⟩⟩ <;> rw [e]
  · exact h
  · exact h
  · exact adoptOffer_linkSound f h
  · exact clashPath_linkSound f h
  · exact h.congr (by simp) (by simp) (by simp)

theorem frameArrival_linkSound {t : State} (h : LinkSound s) (he : execFrameArrival s = .next t) :
    LinkSound t := by
  obtain ⟨-, rfl⟩ | ⟨hr, -, rfl⟩ | ⟨hr, -, rfl⟩ := execFrameArrival_cases he
  · exact h
  · exact endReception_linkSound h hr
  · exact judgeFrame_linkSound (endReception_linkSound h hr)

/-! ## Channel access -/

theorem cbsyRise_linkSound {t : State} (h : LinkSound s) (he : execCbsyRise s = .next t) : LinkSound t := by
  rw [linkSound_iff] at h ⊢
  obtain ⟨hrec, hag, hair, htimer, hacc, hidle, -, -⟩ := h
  obtain ⟨hg, rfl⟩ | ⟨hg, rfl⟩ := execCbsyRise_cases he
  · exact ⟨hrec, hag, hair, htimer, hacc, hidle, fun e => absurd e hg, fun _ => rfl⟩
  · rw [hg] at hair hacc
    exact ⟨hrec, by simpa [SidesAgree, hg] using hag, by simpa using hair, by simp, fun _ => hacc rfl, by simp, by simp,
      fun _ => rfl⟩

/-- Entry to DEFER with a frame pending, from any state but OFF and SENDING (R31). -/
theorem enterDefer_linkSound (hrec : ReceiveSound s.rxv s.receive) (hag : SidesAgree s.receive s.transmit)
    (hair : s.transmit.onAir = none) (hoff : s.transmit.state ≠ .off) (hp : framePending s = true) :
    LinkSound (enterDefer s) := by
  have hr : s.receive.state ≠ .off := fun e => hoff (hag.2.1 e)
  rw [linkSound_iff]
  have hpend : framePending (enterDefer s) = framePending s := by simp [framePending]
  simp only [enterDefer_frame, hpend]
  refine ⟨hrec, ?_, ?_⟩ <;> rw [enterDefer_transmit] <;> cases hc : s.cbsy <;>
    simp [SidesAgree, AccessSound, accessing, hair, hp, hr]

theorem cbsyFall_linkSound {t : State} (h : LinkSound s) (he : execCbsyFall s = .next t) : LinkSound t := by
  obtain ⟨hrec, hag, hair, htimer, hacc, hidle, -, -⟩ := (linkSound_iff s).1 h
  obtain ⟨hd, rfl⟩ | ⟨hd, rfl⟩ := execCbsyFall_cases he
  · rw [linkSound_iff]
    exact ⟨hrec, hag, hair, htimer, hacc, hidle, fun _ => rfl, fun e => absurd e hd⟩
  · exact enterDefer_linkSound hrec hag (by simpa [hd] using hair) (by simp [hd])
      (hacc (by simp [hd, accessing]))

/-- A frame goes out: the receive side is BLANKED with no bits in assembly (R13, R32). -/
theorem sendBytes_linkSound (bytes : List Byte) (hrec : ReceiveSound s.rxv s.receive) :
    LinkSound (sendBytes bytes s) := by
  obtain ⟨-, -, -, hrest⟩ := hrec
  rw [linkSound_iff]
  exact ⟨⟨by simp [sendBytes], by simp [sendBytes], rfl, hrest⟩, by simp [SidesAgree, sendBytes],
    by simp [AccessSound, sendBytes, accessing]⟩

/-- At the end of a gap a frame is pending, and the one chosen goes out (R31, R32). -/
theorem sendChosen_linkSound (h : LinkSound s) (hg : s.transmit.state = .gap) : LinkSound (sendChosen s) := by
  obtain ⟨hrec, -, -, -, hacc, -⟩ := (linkSound_iff s).1 h
  have hp : framePending s = true := hacc (by simp [hg, accessing])
  unfold sendChosen
  split
  · exact sendBytes_linkSound _ hrec
  · exact sendBytes_linkSound _ hrec
  · simp_all [framePending]

/-- A transmission has ended: the receive side leaves BLANKED where RXV is low (R11). -/
theorem unblank_eq (s : State) :
    unblank s = { s with receive := if s.receive.state = .blanked ∧ s.rxv = false then
      { s.receive with state := .ready } else s.receive } := by
  unfold unblank
  split
  case h_1 hr hx => rw [if_pos ⟨hr, hx⟩]
  all_goals rw [if_neg (by simp_all)]

theorem unblank_receiveSound (h : ReceiveSound s.rxv s.receive) :
    ReceiveSound (unblank s).rxv (unblank s).receive := by
  rw [unblank_eq]
  simp only
  split
  · obtain ⟨-, -, hrest⟩ := h
    exact ⟨fun _ => (‹_ ∧ _› : _ ∧ _).2, by simp, hrest⟩
  · exact h

theorem unblank_receive_ne_off (h : s.receive.state ≠ .off) : (unblank s).receive.state ≠ .off := by
  rw [unblank_eq]
  split <;> simp [h]

/-- The receive side leaves BLANKED and the transmit side goes to GAP or DEFER while a frame is pending,
else to IDLE (R11, R31, R33). -/
theorem transmissionEnd_linkSound {t : State} (h : LinkSound s) (he : execTransmissionEnd s = .next t) :
    LinkSound t := by
  obtain ⟨hrec, hag, -⟩ := (linkSound_iff s).1 h
  set ended : State := unblank { s with transmit := { state := .idle, gapTimer := none, onAir := none } }
  have hsound (hs : s.transmit.state = .sending) :
      ReceiveSound ended.rxv ended.receive ∧ SidesAgree ended.receive ended.transmit := by
    have hoff : ended.receive.state ≠ .off := unblank_receive_ne_off (by simp [hag.1 hs])
    exact ⟨unblank_receiveSound hrec, by simpa [SidesAgree, ended] using hoff⟩
  have hpend : framePending ended = framePending s := by simp [ended, framePending]
  obtain ⟨-, rfl⟩ | ⟨hs, hp, rfl⟩ | ⟨hs, hp, rfl⟩ := execTransmissionEnd_cases he
  · exact h
  · obtain ⟨hr, ha⟩ := hsound hs
    exact enterDefer_linkSound hr ha (by simp) (by simp) (hpend.trans hp)
  · obtain ⟨hr, ha⟩ := hsound hs
    refine (linkSound_iff _).2 ⟨hr, ha, ?_⟩
    rw [hpend, hp]
    simp [AccessSound, accessing]

/-! ## Power-on -/

theorem powerOn_linkSound (s : State) : LinkSound (powerOn s) := by
  simp [LinkSound, powerOn, State.reset, ReceiveSide.powerOn, TransmitSide.powerOn, Scheduler.powerOn, framePending, accessing]

theorem leavePowerOn_linkSound (g : Settings) (s : State) : LinkSound (leavePowerOn g s) := by
  cases hx : s.rxv <;>
    simp [LinkSound, hx, leavePowerOn, powerOn, State.reset, ReceiveSide.powerOn, TransmitSide.powerOn, Scheduler.powerOn,
      framePending, accessing]

theorem loadTag_linkSound (tag : Tag) (h : LinkSound s) : LinkSound (loadTag tag s) := by
  unfold loadTag
  split
  · exact h
  · exact h.of_abandoned (by simp) (enterStarting_transmit tag s) (by simp [framePending])

end Operations

/-! ## Every event -/

theorem exec_linkSound (c : Instr) {s t : State} (he : exec c s = .next t) (h : LinkSound s) : LinkSound t := by
  have hf := exec_leavesAllBut c he
  cases c with
  | resetnLow => exact execResetnLow_cases he ▸ powerOn_linkSound s
  | startUpReadComplete smi =>
    obtain rfl | ⟨-, ht⟩ := execStartUpReadComplete_cases he
    · exact h
    · exact ht ▸ loadTag_linkSound _ (leavePowerOn_linkSound _ s)
  | receptionStart => exact receptionStart_linkSound h he
  | blankedRxvFall => exact blankedRxvFall_linkSound h he
  | byteComplete rxd => exact byteComplete_linkSound h he
  | frameArrival => exact frameArrival_linkSound h he
  | cbsyRise => exact cbsyRise_linkSound h he
  | cbsyFall => exact cbsyFall_linkSound h he
  | gapExpiry =>
    obtain rfl | ⟨hg, -, rfl⟩ := execGapExpiry_cases he
    · exact h
    · exact sendChosen_linkSound h hg
  | transmissionEnd => exact transmissionEnd_linkSound h he
  | airTick =>
    obtain ⟨-, rfl⟩ | ⟨-, rfl⟩ := execAirTick_cases he
    · exact h
    · exact airTickInOrder_linkSound _ h
  | presenceCountExpiry =>
    obtain rfl | ⟨-, -, rfl⟩ := execPresenceCountExpiry_cases he
    · exact h
    · exact presenceExpiry_linkSound h
  | offerCountExpiry =>
    obtain rfl | ⟨-, -, rfl⟩ := execOfferCountExpiry_cases he
    · exact h
    · exact offerExpiry_linkSound h
  | listeningPeriodExpiry =>
    obtain rfl | ⟨-, -, rfl⟩ := execListeningPeriodExpiry_cases he
    · exact h
    · exact listeningExpiry_linkSound h
  | clashWaitExpiry =>
    obtain rfl | ⟨-, -, rfl⟩ := execClashWaitExpiry_cases he
    · exact h
    · exact clashWaitExpires_linkSound h
  | listenOnlyRetry =>
    obtain rfl | ⟨-, -, rfl⟩ := execListenOnlyRetry_cases he
    · exact h
    · exact retryChoice_linkSound h
  | windowClose =>
    obtain rfl | ⟨-, -, rfl⟩ := execWindowClose_cases he
    · exact h
    · exact closePairing_linkSound h
  | blockEvent adi =>
    obtain ⟨-, rfl⟩ | ⟨-, rfl⟩ := execBlockEvent_cases he
    · exact h
    · exact blockEvent_linkSound adi h
  | startUp | heardTimeout | stale | peerLost | queueLapse | driftWindowClose | computationComplete | frameMark
  | missedMark | tagWriteStart | writeTransactionEnd | writeTimeEnd | writeCompletion | portFrameEnd =>
    exact h.congr ⟨hf.rxv (by simp [reaches]), hf.cbsy (by simp [reaches]), hf.receive (by simp [reaches])⟩
      (hf.transmit (by simp [reaches])) (hf.scheduler (by simp [reaches]))

/-- Settles O59. -/
theorem stepKeepsLinkSound : Obligations.StepKeepsLinkSound := by
  intro s t he h
  unfold step at he
  split at he
  · cases he
    exact h
  · exact exec_linkSound _ he h

end Sys2Proof.Machine

/-! # The frame check, the form check and the frames sent -/

namespace Sys2Proof.Machine

/-! ## The check register (R6, R7) -/

/-- Only the feedback sets the low bit of the check register. -/
theorem crcBit_getLsbD_zero (r : BitVec 16) (d : Bool) : (crcBit r d).getLsbD 0 = (d ^^ r.getLsbD 15) := by
  unfold crcBit
  split <;> simp_all

/-- A bit equal to the register's top bit shifts it alone. -/
theorem crcBit_of_eq {r : BitVec 16} {d : Bool} (h : r.getLsbD 15 = d) : crcBit r d = r <<< 1 := by
  rw [crcBit, h, Bool.xor_self, if_neg Bool.false_ne_true]

theorem shiftLeft_one_getLsbD {r : BitVec 16} {i : Nat} (h : i < 15) :
    (r <<< 1).getLsbD (15 - i) = r.getLsbD (15 - (i + 1)) := by
  rw [BitVec.getLsbD_shiftLeft, show 15 - i - 1 = 15 - (i + 1) by omega]
  simp
  omega

/-- Up to sixteen bits bring the register to 0 exactly if they are its top bits and the rest of it is 0:
feedback at any of them would leave a bit that no later one clears. -/
theorem foldl_crcBit_eq_zero_iff (ds : List Bool) (r : BitVec 16) (h : ds.length ≤ 16) :
    ds.foldl crcBit r = 0 ↔ ∀ i < 16, r.getLsbD (15 - i) = ds.getD i false := by
  induction ds generalizing r with
  | nil =>
    simp only [List.foldl_nil, List.getD_nil]
    refine ⟨fun e => by simp [e], fun e => BitVec.eq_of_getLsbD_eq fun i hi => ?_⟩
    have := e (15 - i) (by omega)
    simpa [show 15 - (15 - i) = i by omega] using this
  | cons d ds ih =>
    have hlen : ds.length ≤ 15 := Nat.le_of_succ_le_succ h
    have hlast : ds.getD 15 false = false := by simp [hlen]
    rw [List.foldl_cons, ih _ (by omega)]
    constructor
    · intro e
      have htop : r.getLsbD 15 = d := by
        have := e 15 (by omega)
        rw [Nat.sub_self, crcBit_getLsbD_zero, hlast, bne_eq_false_iff_eq] at this
        exact this.symm
      rw [crcBit_of_eq htop] at e
      intro i hi
      cases i with
      | zero => simpa using htop
      | succ i => rw [← shiftLeft_one_getLsbD (by omega), e i (by omega), List.getD_cons_succ]
    · intro e
      rw [crcBit_of_eq (by simpa using e 0 (by omega))]
      intro i hi
      by_cases h15 : i < 15
      · rw [shiftLeft_one_getLsbD h15, e (i + 1) (by omega), List.getD_cons_succ]
      · rw [show i = 15 by omega, hlast]
        simp

/-- The bits of two bytes, the high byte's bit 7 first, are those of their word from bit 15 down. -/
theorem bitsOfByte_append_getD (hi lo : Byte) {i : Nat} (h : i < 16) :
    (bitsOfByte hi ++ bitsOfByte lo).getD i false = (hi ++ lo).getLsbD (15 - i) := by
  rw [BitVec.getLsbD_append]
  interval_cases i <;> rfl

theorem crcOf_append_pair (body : List Byte) (hi lo : Byte) :
    crcOf (body ++ [hi, lo]) = (bitsOfByte hi ++ bitsOfByte lo).foldl crcBit (crcOf body) := by
  simp [crcOf, crcByte, List.foldl_append]

/-- Two further bytes bring the register to 0 exactly if they are what it held (R7). -/
theorem crcOf_append_eq_zero_iff (body : List Byte) (hi lo : Byte) :
    crcOf (body ++ [hi, lo]) = 0 ↔ crcOf body = hi ++ lo := by
  rw [crcOf_append_pair, foldl_crcBit_eq_zero_iff _ _ (by simp [bitsOfByte])]
  refine ⟨fun e => BitVec.eq_of_getLsbD_eq fun i hi' => ?_, fun e i hi' => ?_⟩
  · have := e (15 - i) (by omega)
    rwa [bitsOfByte_append_getD _ _ (by omega), show 15 - (15 - i) = i by omega] at this
  · rw [e, bitsOfByte_append_getD _ _ hi']

/-! ## A reception whole (R11) -/

theorem received_concat (bytes : List Byte) (b : Byte) :
    received (bytes ++ [b]) = receiveByte b (received bytes) := by simp [received]

/-- A reception keeps 71 bytes, counts to 255 and feeds every byte to the check register (R11). -/
theorem received_eq (bytes : List Byte) :
    received bytes =
      { state := .receiving, buffer := bytes.take 71, byteCount := min 255 bytes.length, crc := crcOf bytes
        bits := [] } := by
  induction bytes using List.reverseRecOn with
  | nil => rfl
  | append_singleton bytes b ih =>
    rw [received_concat, ih, receiveByte, ReceiveSide.mk.injEq]
    refine ⟨rfl, ?_, ?_, by simp [crcOf], rfl⟩
    · by_cases h : bytes.length < 71
      · rw [if_pos (by simp only; omega), List.take_of_length_le (by omega),
          List.take_of_length_le (by simp; omega)]
      · rw [if_neg (by simp only; omega), List.take_append_of_le_length (by omega)]
    · simp only [List.length_append, List.length_singleton]
      omega

theorem frameCheckPasses_received (bytes : List Byte) :
    frameCheckPasses (received bytes) = true ↔ 3 ≤ bytes.length ∧ crcOf bytes = 0 := by
  simp [frameCheckPasses, received_eq]

/-- The end of a reception judges the frame if a whole byte came (R12). -/
theorem exec_frameArrival {s : State} (hr : s.receive.state = .receiving) :
    exec .frameArrival s =
      .next (if s.receive.byteCount = 0 then endReception s else judgeFrame (endReception s)) := by
  change execFrameArrival s = _
  unfold execFrameArrival
  rw [hr]
  rfl

/-- A reception of no whole byte ends with nothing judged (R12). -/
theorem frameArrival_noByte {s : State} (hr : s.receive.state = .receiving) (hb : s.receive.byteCount = 0) :
    exec .frameArrival s = .next (endReception s) := by
  rw [exec_frameArrival hr, if_pos hb]

/-- A failed frame check sets CHECK_FAIL alone (R15). -/
theorem frameArrival_checkFail {s : State} (hr : s.receive.state = .receiving) (hb : s.receive.byteCount ≠ 0)
    (hc : frameCheckPasses s.receive = false) :
    exec .frameArrival s = .next { endReception s with flags := { s.flags with checkFail := true } } := by
  have hc' : ¬ frameCheckPasses (endReception s).receive = true := by
    rw [show frameCheckPasses (endReception s).receive = false from hc]
    exact Bool.false_ne_true
  rw [exec_frameArrival hr, if_neg hb, judgeFrame, if_neg hc']
  rfl

/-- Settles O13. -/
theorem frameCheckComparesTheLastTwoBytes : Obligations.FrameCheckComparesTheLastTwoBytes := by
  refine ⟨fun bytes => by rw [received_eq], fun body hi lo => ?_, fun bytes h => ?_, fun s hr => ?_, ?_⟩
  · rw [frameCheckPasses_received, crcOf_append_eq_zero_iff]
    have : 3 ≤ (body ++ [hi, lo]).length ↔ body ≠ [] := by
      cases body <;> simp
    rw [this]
  · rw [Bool.eq_false_iff, Ne, frameCheckPasses_received]
    omega
  · exact ⟨frameArrival_noByte hr, frameArrival_checkFail hr⟩
  · decide +kernel

/-! ## The form of a frame (R2, R5, R15) -/

theorem kindOfCode_eq_some_iff (n : Nat) (k : FrameKind) : kindOfCode n = some k ↔ n = (kindCode k).toNat := by
  unfold kindOfCode
  split <;> cases k <;> simp_all [kindCode]

/-- The form check passes on a kind's code, its length and its items, and reads the frame as that kind (R15). -/
theorem formCheck_eq_some_iff (r : ReceiveSide) (f : AirFrame) :
    formCheck r = some f ↔
      ∃ k : FrameKind, (byteOf r.buffer 0).extractLsb' 4 4 = kindCode k ∧ r.byteCount = kindLength k ∧
        formItems k r.buffer = true ∧ f = readFrame k r.buffer := by
  have hcode (k : FrameKind) : (byteOf r.buffer 0).extractLsb' 4 4 = kindCode k ↔
      kindOfCode ((byteOf r.buffer 0).extractLsb' 4 4).toNat = some k := by
    rw [kindOfCode_eq_some_iff, BitVec.toNat_eq]
  simp only [hcode, formCheck]
  cases kindOfCode ((byteOf r.buffer 0).extractLsb' 4 4).toNat with
  | none => simp
  | some k =>
    simp only [Option.ite_none_right_eq_some, Option.some.injEq]
    constructor
    · rintro ⟨⟨hl, hi⟩, rfl⟩
      exact ⟨k, rfl, hl, hi, rfl⟩
    · rintro ⟨_, rfl, hl, hi, rfl⟩
      exact ⟨⟨hl, hi⟩, rfl⟩

theorem formCheck_isSome_iff (r : ReceiveSide) :
    (formCheck r).isSome = true ↔
      ∃ k : FrameKind, (byteOf r.buffer 0).extractLsb' 4 4 = kindCode k ∧ r.byteCount = kindLength k ∧
        formItems k r.buffer = true := by
  simp only [Option.isSome_iff_exists, formCheck_eq_some_iff]
  exact ⟨fun ⟨_, k, hk, hl, hi, _⟩ => ⟨k, hk, hl, hi⟩, fun ⟨k, hk, hl, hi⟩ => ⟨_, k, hk, hl, hi, rfl⟩⟩

/-- The high half of a byte as a number. -/
theorem highNibble_eq_iff (b : Byte) (c : BitVec 4) : b.extractLsb' 4 4 = c ↔ b.toNat / 16 = c.toNat := by
  rw [BitVec.toNat_eq, BitVec.extractLsb'_toNat, Nat.shiftRight_eq_div_pow]
  have := b.isLt
  omega

/-- The low half of a byte as a number. -/
theorem lowNibble_toNat (b : Byte) : (b.extractLsb' 0 4).toNat = b.toNat % 16 := by
  simp [BitVec.extractLsb'_toNat]

theorem lowNibble_eq_iff (b : Byte) (c : BitVec 4) : b.extractLsb' 0 4 = c ↔ b.toNat % 16 = c.toNat := by
  rw [BitVec.toNat_eq, lowNibble_toNat]

/-- The class bit of byte 0 as a number (R5). -/
theorem classBit_eq (b : Byte) : b.getLsbD 3 = decide (b.toNat / 8 % 2 = 1) := by
  rw [← BitVec.testBit_toNat, Nat.testBit_eq_decide_div_mod_eq]

theorem formItems_voice_iff (buffer : List Byte) :
    formItems .voice buffer = true ↔ (byteOf buffer 4).toNat % 16 ≤ 8 := by
  simp [formItems, readFrame]

theorem formItems_hold_iff (buffer : List Byte) :
    formItems .hold buffer = true ↔
      1 ≤ (byteOf buffer 4).toNat % 16 ∧ (byteOf buffer 4).toNat % 16 ≤ 3 := by
  simp [formItems, readFrame]

/-- A PRESENCE has a self state that sends, and the class of its role (R4, R15). -/
theorem formItems_presence_iff (buffer : List Byte) :
    formItems .presence buffer = true ↔
      ((byteOf buffer 9).toNat % 16 = 2 ∨ (byteOf buffer 9).toNat % 16 = 3) ∧
      (((byteOf buffer 9).toNat / 16 = 0 ∧ (byteOf buffer 0).toNat / 8 % 2 = 0) ∨
        ((byteOf buffer 9).toNat / 16 = 1 ∧ (byteOf buffer 0).toNat / 8 % 2 = 1)) := by
  have hbit : (byteOf buffer 0).toNat / 8 % 2 = 0 ∨ (byteOf buffer 0).toNat / 8 % 2 = 1 := by omega
  simp only [formItems, readFrame, Bool.and_eq_true, Bool.or_eq_true, beq_iff_eq, highNibble_eq_iff,
    lowNibble_eq_iff, classBit_eq, classOfBit]
  rcases hbit with hbit | hbit <;> simp [hbit] <;> omega

/-- An OFFER has a tag (R15). -/
theorem formItems_offer_iff (buffer : List Byte) :
    formItems .offer buffer = true ↔ (byteOf buffer 1).toNat ≠ 0 ∨ (byteOf buffer 2).toNat ≠ 0 := by
  have := (byteOf buffer 2).isLt
  simp only [formItems, readFrame, bne_iff_ne, Ne, BitVec.toNat_eq, BitVec.toNat_append]
  simp
  omega

/-- Settles O14, kind by kind. -/
theorem formCheckHasTheItemsOfItsRule : Obligations.FormCheckHasTheItemsOfItsRule := by
  intro r b
  rw [formCheck_isSome_iff]
  constructor
  · rintro ⟨k, hk, hl, hi⟩
    rw [highNibble_eq_iff] at hk
    cases k with
    | voice => exact .inl ⟨hk, hl, (formItems_voice_iff _).1 hi⟩
    | hold => exact .inr (.inl ⟨hk, hl, (formItems_hold_iff _).1 hi⟩)
    | presence => exact .inr (.inr (.inl ⟨hk, hl, (formItems_presence_iff _).1 hi⟩))
    | offer => exact .inr (.inr (.inr ⟨hk, hl, (formItems_offer_iff _).1 hi⟩))
  · simp only [highNibble_eq_iff]
    rintro (⟨hk, hl, hi⟩ | ⟨hk, hl, hi⟩ | ⟨hk, hl, hi⟩ | ⟨hk, hl, hi⟩)
    · exact ⟨.voice, hk, hl, (formItems_voice_iff _).2 hi⟩
    · exact ⟨.hold, hk, hl, (formItems_hold_iff _).2 hi⟩
    · exact ⟨.presence, hk, hl, (formItems_presence_iff _).2 hi⟩
    · exact ⟨.offer, hk, hl, (formItems_offer_iff _).2 hi⟩

/-! ## What is sent reads back (R3 to R6, R24) -/

/-- The two bytes of a word, put together again. -/
theorem word_of_bytes (w : BitVec 16) : w.extractLsb' 8 8 ++ w.extractLsb' 0 8 = w :=
  (BitVec.extractLsb'_append_extractLsb'_eq_extractLsb' (by decide)).trans BitVec.extractLsb'_eq_self

/-- The four bytes of an identifier, put together again (R5). -/
theorem unitId_of_bytes (u : UnitId) :
    u.extractLsb' 24 8 ++ u.extractLsb' 16 8 ++ u.extractLsb' 8 8 ++ u.extractLsb' 0 8 = u := by
  rw [BitVec.extractLsb'_append_extractLsb'_eq_extractLsb' (start₂ := 24) (start₁ := 16) rfl,
    BitVec.extractLsb'_append_extractLsb'_eq_extractLsb' (start₂ := 16) (start₁ := 8) rfl,
    BitVec.extractLsb'_append_extractLsb'_eq_extractLsb' (start₂ := 8) (start₁ := 0) rfl]
  exact BitVec.extractLsb'_eq_self

/-- The sequence number, from byte 3 and the high half of byte 4 (R5). -/
theorem seq_of_bytes (q : Seq) (field : BitVec 4) :
    q.extractLsb' 4 8 ++ (q.extractLsb' 0 4 ++ field).extractLsb' 4 4 = q := by
  rw [BitVec.extractLsb'_append_eq_left]
  exact (BitVec.extractLsb'_append_extractLsb'_eq_extractLsb' (by decide)).trans BitVec.extractLsb'_eq_self

section Sent

variable (k : FrameKind) (h : HeaderFill) (seq : Seq) (field : BitVec 4) (rest : List Byte)

/-- Byte 0 of a frame sent holds its kind above its class above its number (R5). -/
theorem header_kind :
    (byteOf (headerBytes k h seq field ++ rest) 0).extractLsb' 4 4 = kindCode k :=
  (BitVec.extractLsb'_append_eq_of_le (by decide)).trans BitVec.extractLsb'_append_eq_left

theorem header_class :
    classOfBit ((byteOf (headerBytes k h seq field ++ rest) 0).getLsbD 3) = h.cls := by
  change classOfBit ((kindCode k ++ classBit h.cls ++ BitVec.ofNat 3 h.number.val).getLsbD 3) = h.cls
  rw [BitVec.getLsbD_append, if_neg (by decide), BitVec.getLsbD_append, if_pos (by decide)]
  cases h.cls <;> rfl

theorem header_sender :
    ((byteOf (headerBytes k h seq field ++ rest) 0).extractLsb' 0 3).toFin = h.number := by
  have : (byteOf (headerBytes k h seq field ++ rest) 0).extractLsb' 0 3 = BitVec.ofNat 3 h.number.val :=
    BitVec.extractLsb'_append_eq_right
  rw [this]
  exact Fin.ext (by simp)

/-- Beyond the header a frame holds what follows it (R5). -/
theorem byteOf_afterHeader (i : Nat) :
    byteOf (headerBytes k h seq field ++ rest) (5 + i) = byteOf rest i := by
  rw [byteOf, List.getD_append_right _ _ _ _ (by simp [headerBytes])]
  simp [headerBytes, byteOf]

/-- The fields read from a frame are those its header was filled with (R3 to R5, R24). -/
theorem readFrame_header :
    readFrame k (headerBytes k h seq field ++ rest) =
      { kind := k, cls := h.cls, sender := h.number, tag := h.tag, seq := seq, field := field
        unitId := byteOf rest 0 ++ byteOf rest 1 ++ byteOf rest 2 ++ byteOf rest 3
        mantissas := Vector.ofFn fun i => byteOf rest i.val } := by
  rw [readFrame, header_class, header_sender]
  simp only [byteOf_afterHeader]
  congr 1
  · exact word_of_bytes _
  · exact seq_of_bytes _ _
  · exact BitVec.extractLsb'_append_eq_right

/-- A frame with its CRC passes the frame check (R6, R7). -/
theorem frameCheckPasses_withCrc {l : List Byte} (hl : l ≠ []) :
    frameCheckPasses (received (withCrc l)) = true := by
  rw [frameCheckPasses_received, withCrc, crcOf_append_eq_zero_iff, word_of_bytes]
  have := List.length_pos_of_ne_nil hl
  exact ⟨by simp; omega, rfl⟩

/-- A frame of its kind's length with the items of its kind is accepted, and reads as it was filled in. -/
theorem formCheck_sent (hlen : rest.length + 7 = kindLength k)
    (hitems : ∀ crc : List Byte, formItems k (headerBytes k h seq field ++ (rest ++ crc)) = true) :
    ∃ crc : List Byte,
      (received (withCrc (headerBytes k h seq field ++ rest))).buffer =
        headerBytes k h seq field ++ (rest ++ crc) ∧
      formCheck (received (withCrc (headerBytes k h seq field ++ rest))) = some
        { kind := k, cls := h.cls, sender := h.number, tag := h.tag, seq := seq, field := field
          unitId := byteOf (rest ++ crc) 0 ++ byteOf (rest ++ crc) 1 ++ byteOf (rest ++ crc) 2 ++ byteOf (rest ++ crc) 3
          mantissas := Vector.ofFn fun i => byteOf (rest ++ crc) i.val } := by
  have hk : kindLength k ≤ 71 := by cases k <;> decide
  have hl : (withCrc (headerBytes k h seq field ++ rest)).length = kindLength k := by
    simp [withCrc, headerBytes, ← hlen]
  obtain ⟨crc, hcrc⟩ : ∃ crc, withCrc (headerBytes k h seq field ++ rest) =
      headerBytes k h seq field ++ (rest ++ crc) := ⟨_, List.append_assoc ..⟩
  rw [hcrc] at hl ⊢
  have hbuffer : (received (headerBytes k h seq field ++ (rest ++ crc))).buffer =
      headerBytes k h seq field ++ (rest ++ crc) := by
    rw [received_eq, List.take_of_length_le (hl ▸ hk)]
  have hcount : (received (headerBytes k h seq field ++ (rest ++ crc))).byteCount = kindLength k := by
    rw [received_eq]
    simp only
    omega
  refine ⟨crc, hbuffer, ?_⟩
  rw [formCheck_eq_some_iff, hbuffer, hcount]
  exact ⟨k, header_kind .., rfl, hitems crc, (readFrame_header ..).symm⟩

end Sent

/-- A VOICE reads back with its mantissas (R4, R5). -/
theorem voice_readBack (h : HeaderFill) (seq : Seq) {e : Nat} (m : Mantissas) (he : e ≤ 8) :
    ∃ f : AirFrame, formCheck (received (audioFrameBytes h (.voice seq e m))) = some f ∧
      f.kind = .voice ∧ f.cls = h.cls ∧ f.sender = h.number ∧ f.tag = h.tag ∧ f.seq = seq ∧
      f.field.toNat = e ∧ f.mantissas = m := by
  have hfield : (BitVec.ofNat 4 e).toNat = e := by
    rw [BitVec.toNat_ofNat]
    omega
  obtain ⟨crc, -, hform⟩ := formCheck_sent .voice h seq (BitVec.ofNat 4 e) m.toList (by simp [kindLength])
    fun _ => by simp only [formItems, readFrame_header, hfield, he, decide_true]
  refine ⟨_, hform, rfl, rfl, rfl, rfl, rfl, hfield, Vector.ext fun i hi => ?_⟩
  rw [Vector.getElem_ofFn, byteOf, List.getD_append _ _ _ _ (by simpa using hi)]
  simp [hi]

theorem hold_readBack (h : HeaderFill) (seq : Seq) (r : HoldReason) :
    ∃ f : AirFrame, formCheck (received (audioFrameBytes h (.hold seq r))) = some f ∧
      f.kind = .hold ∧ f.cls = h.cls ∧ f.sender = h.number ∧ f.tag = h.tag ∧ f.seq = seq ∧
      f.field = reasonCode r := by
  obtain ⟨crc, -, hform⟩ := formCheck_sent .hold h seq (reasonCode r) [] rfl fun _ => by
    simp only [formItems, readFrame_header]
    cases r <;> rfl
  exact ⟨_, hform, rfl, rfl, rfl, rfl, rfl, rfl⟩

/-- A PRESENCE of a station that sends, in the class of its role, reads back with its identifier (R4, R5). -/
theorem presence_readBack (h : HeaderFill) (hcls : h.cls = roleClass h.role) (hs : sends h.selfState = true) :
    ∃ f : AirFrame, formCheck (received (announceFrameBytes h .presence)) = some f ∧
      f.kind = .presence ∧ f.cls = h.cls ∧ f.sender = h.number ∧ f.tag = h.tag ∧
      f.seq = h.sequence ∧ f.unitId = h.unitId ∧
      byteOf (received (announceFrameBytes h .presence)).buffer 9 = roleCode h.role ++ selfCode h.selfState := by
  obtain ⟨crc, hbuffer, hform⟩ := formCheck_sent .presence h h.sequence 0
    (unitIdBytes h.unitId ++ [roleCode h.role ++ selfCode h.selfState]) rfl fun crc => by
      have h9 : byteOf (headerBytes .presence h h.sequence 0 ++
          (unitIdBytes h.unitId ++ [roleCode h.role ++ selfCode h.selfState] ++ crc)) 9 =
          roleCode h.role ++ selfCode h.selfState := rfl
      simp only [formItems, readFrame_header, h9, hcls, BitVec.extractLsb'_append_eq_left,
        BitVec.extractLsb'_append_eq_right]
      rcases (sends_iff _).1 hs with e | e <;> rw [e] <;> cases h.role <;> rfl
  rw [← List.append_assoc] at hbuffer hform
  exact ⟨_, hform, rfl, rfl, rfl, rfl, rfl, unitId_of_bytes _, congrArg (byteOf · 9) hbuffer⟩

/-- An OFFER of a station with a tag reads back with its identifier (R5). -/
theorem offer_readBack (h : HeaderFill) (ht : h.tag ≠ 0) :
    ∃ f : AirFrame, formCheck (received (announceFrameBytes h .offer)) = some f ∧
      f.kind = .offer ∧ f.cls = h.cls ∧ f.sender = h.number ∧ f.tag = h.tag ∧
      f.seq = h.sequence ∧ f.unitId = h.unitId := by
  obtain ⟨crc, -, hform⟩ := formCheck_sent .offer h h.sequence 0 (unitIdBytes h.unitId) rfl fun _ => by
    simpa only [formItems, readFrame_header, bne_iff_ne] using ht
  exact ⟨_, hform, rfl, rfl, rfl, rfl, rfl, unitId_of_bytes _⟩

/-- Settles O15, kind by kind. -/
theorem framesSentAreReadBackWhole : Obligations.FramesSentAreReadBackWhole := by
  refine ⟨fun h seq e m he => ⟨frameCheckPasses_withCrc (by simp [headerBytes]), voice_readBack h seq m he⟩,
    fun h seq r => ⟨frameCheckPasses_withCrc (by simp [headerBytes]), hold_readBack h seq r⟩,
    fun h hcls hs => ⟨frameCheckPasses_withCrc (by simp [headerBytes]), ?_⟩,
    fun h ht => ⟨frameCheckPasses_withCrc (by simp [headerBytes]), offer_readBack h ht⟩⟩
  obtain ⟨f, hform, hkind, hc, hsend, ht, hq, hu, h9⟩ := presence_readBack h hcls hs
  refine ⟨f, hform, hkind, hc, hsend, ht, hq, hu, ?_⟩
  rw [h9]
  cases h.role <;> cases h.selfState <;> rfl

end Sys2Proof.Machine

/-! # The block code (R8 to R10) -/

namespace Sys2Proof.Machine

/-! ## One sample -/

/-- The range of samples whose unsaturated mantissa fits at shift `d` (R10). -/
abbrev InCodeRange (d : Nat) (x : Int) : Prop :=
  -128 * 2 ^ d - (2 ^ d / 2) ≤ x ∧ x ≤ 127 * 2 ^ d + (2 ^ d - 1) / 2

theorem mantissaFits_iff {d : Nat} (h : d < 8) (x : Int) :
    mantissaFits (rawMantissa d x) = true ↔ InCodeRange d x := by
  simp only [mantissaFits, decide_eq_true_eq]
  interval_cases d <;> simp [rawMantissa] <;> omega

/-- A greater shift has a wider range. -/
theorem InCodeRange.mono {d d' : Nat} {x : Int} (h : InCodeRange d x) (hd : d ≤ d') (h8 : d' < 8) :
    InCodeRange d' x := by
  obtain ⟨hlo, hhi⟩ := h
  interval_cases d' <;> interval_cases d <;> simp at hlo hhi ⊢ <;> omega

/-- The mantissa sent for a sample at shift `e` (R8). -/
def sentMantissa (e : Nat) (x : Int) : Int := saturateMantissa (rawMantissa e x)

theorem sentMantissa_bounds (e : Nat) (x : Int) : -128 ≤ sentMantissa e x ∧ sentMantissa e x ≤ 127 := by
  simp only [sentMantissa, saturateMantissa]
  omega

/-- Where the mantissa fits nothing is saturated, and shift 0 is exact (R8, R10). -/
theorem sentMantissa_zero {x : Int} (h : InCodeRange 0 x) : sentMantissa 0 x = x := by
  simp only [sentMantissa, saturateMantissa, rawMantissa]
  simp at h ⊢
  omega

/-- A sample that shift `e` holds is rounded to the nearest multiple of 2 to the `e`, halves up (R8, R10). -/
theorem sentMantissa_error {e : Nat} {x : Int} (h1 : 1 ≤ e) (h8 : e ≤ 8) (hlow : -32768 ≤ x) (hhigh : x < 32640)
    (h : e < 8 → InCodeRange e x) :
    -(2 ^ (e - 1)) + 1 ≤ sentMantissa e x * 2 ^ e - x ∧ sentMantissa e x * 2 ^ e - x ≤ 2 ^ (e - 1) := by
  simp only [sentMantissa, saturateMantissa, rawMantissa]
  interval_cases e <;> simp at h ⊢ <;> omega

/-- Above the range of shift 8 the mantissa saturates to 127 (R10). -/
theorem sentMantissa_saturated {x : Int} (h : 32640 ≤ x) : sentMantissa 8 x = 127 := by
  simp only [sentMantissa, saturateMantissa, rawMantissa]
  simp
  omega

/-! ## A block -/

theorem blockFits_iff {d : Nat} (h : d < 8) (b : Block) :
    blockFits d b = true ↔ ∀ n : Fin 64, InCodeRange d b[n].toInt := by
  simp only [blockFits, List.all_eq_true, mantissaFits_iff h, Vector.mem_toList_iff, Fin.getElem_fin]
  exact Vector.forall_mem_iff_forall_getElem.trans ⟨fun e n => e n n.isLt, fun e i hi => e ⟨i, hi⟩⟩

theorem blockExponent_le_eight (b : Block) : blockExponent b ≤ 8 := by
  unfold blockExponent
  cases h : (List.range 8).find? fun e => blockFits e b with
  | none => simp
  | some e =>
    have := List.mem_of_find?_eq_some h
    simp at this ⊢
    omega

/-- The exponent is the smallest shift at which the block fits (R8). -/
theorem blockExponent_le_iff {d : Nat} (h : d < 8) (b : Block) : blockExponent b ≤ d ↔ blockFits d b = true := by
  unfold blockExponent
  cases hf : (List.range 8).find? fun e => blockFits e b with
  | none =>
    have hd := List.find?_eq_none.1 hf d (List.mem_range.2 h)
    simp only [Option.getD_none]
    exact ⟨fun e => absurd e (by omega), fun e => absurd e hd⟩
  | some e =>
    obtain ⟨he, hmem, hleast⟩ := List.find?_range_eq_some.1 hf
    have he8 : e < 8 := List.mem_range.1 hmem
    simp only [Option.getD_some]
    refine ⟨fun hle => (blockFits_iff h b).2 fun n => ((blockFits_iff he8 b).1 he n).mono hle h, fun hd => ?_⟩
    by_contra hlt
    simpa [hd] using hleast d (by omega)

/-- A decoded sample is the mantissa times 2 to the exponent, with no bit lost (R9). -/
theorem decodeBlock_toInt {e : Nat} (h : e ≤ 8) (m : Mantissas) (n : Fin 64) :
    (decodeBlock e m)[n].toInt = m[n].toInt * 2 ^ e := by
  have hlo := BitVec.le_toInt m[n]
  have hhi := BitVec.toInt_lt (x := m[n])
  simp only [decodeBlock, Fin.getElem_fin, Vector.getElem_ofFn] at hlo hhi ⊢
  refine BitVec.toInt_ofInt_eq_self (by decide) ?_ ?_ <;> interval_cases e <;> simp at hlo hhi ⊢ <;> omega

theorem encodeMantissas_toInt (e : Nat) (b : Block) (n : Fin 64) :
    (encodeMantissas e b)[n].toInt = sentMantissa e b[n].toInt := by
  have ⟨hlo, hhi⟩ := sentMantissa_bounds e b[n].toInt
  simp only [encodeMantissas, Fin.getElem_fin, Vector.getElem_ofFn] at hlo hhi ⊢
  exact BitVec.toInt_ofInt_eq_self (by decide) hlo (Int.lt_add_one_of_le hhi)

/-- A sample of 32640 or more takes the block to exponent 8 (R10). -/
theorem blockExponent_eq_eight {b : Block} {n : Fin 64} (h : 32640 ≤ b[n].toInt) : blockExponent b = 8 := by
  refine le_antisymm (blockExponent_le_eight b) (Nat.succ_le_of_lt (Nat.lt_of_not_le fun hle => ?_))
  obtain ⟨-, hhi⟩ := (blockFits_iff (by decide) b).1 ((blockExponent_le_iff (d := 7) (by decide) b).1 hle) n
  simp at hhi h
  omega

/-- Settles O16: the error of each sample, by the exponent that its block takes. -/
theorem blockCodeErrorIsBoundedByTheExponent : Obligations.BlockCodeErrorIsBoundedByTheExponent := by
  intro b e m
  have he : e ≤ 8 := blockExponent_le_eight b
  have hfits (n : Fin 64) (h : e < 8) : InCodeRange e b[n].toInt :=
    (blockFits_iff h b).1 ((blockExponent_le_iff h b).1 le_rfl) n
  have hdecoded (n : Fin 64) : (decodeBlock e m)[n].toInt = sentMantissa e b[n].toInt * 2 ^ e := by
    rw [decodeBlock_toInt he, encodeMantissas_toInt]
  refine ⟨he, fun d hd => (blockExponent_le_iff hd b).trans (blockFits_iff hd b), fun n =>
    ⟨decodeBlock_toInt he m n, fun h0 => ?_, fun h1 hn => ?_, fun hn => ?_⟩⟩
  · have h := hdecoded n
    rw [h0, sentMantissa_zero (h0 ▸ hfits n (by omega)), pow_zero, mul_one] at h
    rw [h0]
    exact BitVec.eq_of_toInt_eq h
  · rw [hdecoded]
    exact sentMantissa_error h1 he (BitVec.le_toInt b[n]) hn (hfits n)
  · have h8 : e = 8 := blockExponent_eq_eight hn
    have h := hdecoded n
    have hmax : b[n].toInt < 32768 := BitVec.toInt_lt
    rw [h8, sentMantissa_saturated hn] at h
    rw [h8, h]
    exact ⟨rfl, rfl, by omega, by omega⟩

end Sys2Proof.Machine

/-! # Receptions and arrivals -/

namespace Sys2Proof.Machine

/-! ## The receive side (R11, R13) -/

/-- One byte into the check register, as the eight steps of R6 from bit 7 down. -/
theorem crcByte_eq_foldl (r : BitVec 16) (b : Byte) :
    crcByte r b = (List.range 8).foldl
      (fun (r : BitVec 16) i => if Bool.xor (b.getLsbD (7 - i)) (r.getLsbD 15) then (r <<< 1) ^^^ 0x1021#16 else r <<< 1) r := rfl

/-- The byte count stops at 255 (R11). -/
theorem min_count (n : Nat) : min 255 (n + 1) = if n < 255 then n + 1 else 255 := by
  split <;> omega

/-- Settles O12. -/
theorem receptionMovesTheReceiveSide : Obligations.ReceptionMovesTheReceiveSide := by
  refine ⟨fun s h => ?_, fun s h => ?_, fun s h hn => ?_, fun s h => ?_, fun b rxd s h hbits hb => ?_⟩
  · change execReceptionStart s = _
    simp [execReceptionStart, h]
  · change execReceptionStart s = _
    rcases h with h | h <;> simp [execReceptionStart, h]
  · change execBlankedRxvFall s = _
    simp [execBlankedRxvFall, h, hn]
  · change execBlankedRxvFall s = _
    rcases h with h | ⟨h, hn⟩
    · simp [execBlankedRxvFall, h]
    · simp [execBlankedRxvFall, h, hn]
  · have hbyte : sampledByte rxd.toList 0 = b := byte_ext fun j hj => by
      rw [sampledByte_getLsbD _ _ hj]
      simpa [hj] using hb ⟨j, hj⟩
    change execByteComplete rxd s = _
    unfold execByteComplete
    rw [h]
    simp only [receiveBits_of_none hbits, hbyte, receiveByte, h, crcByte_eq_foldl, min_count]

/-! ## What becomes of a frame that has arrived (R12 to R18) -/

/-- The end of a reception touches RXV and the receive side alone (R12). -/
@[simp] theorem endReception_frame (s : State) :
    (endReception s).settings = s.settings ∧ (endReception s).cbsy = s.cbsy ∧
    (endReception s).transmit = s.transmit ∧ (endReception s).scheduler = s.scheduler ∧
    (endReception s).control = s.control ∧ (endReception s).peers = s.peers ∧
    (endReception s).engine = s.engine ∧ (endReception s).lap = s.lap ∧
    (endReception s).flags = s.flags ∧ (endReception s).store = s.store := by
  simp [endReception]

section Arrivals

variable {f : AirFrame} {s : State}

/-- A failed form sets MALFORMED alone (R15). -/
theorem frameArrival_malformed (hr : s.receive.state = .receiving) (hb : s.receive.byteCount ≠ 0)
    (hc : frameCheckPasses s.receive = true) (hf : formCheck s.receive = none) :
    exec .frameArrival s = .next { endReception s with flags := { s.flags with malformed := true } } := by
  have hc' : frameCheckPasses (endReception s).receive = true := hc
  have hf' : formCheck (endReception s).receive = none := hf
  rw [exec_frameArrival hr, if_neg hb, judgeFrame, if_pos hc', hf']
  rfl

/-- A frame that passes checks 1 and 2 is dispatched (R15 to R18). -/
theorem frameArrival_dispatches (h : ArrivesAs f s) :
    exec .frameArrival s = .next (dispatchFrame f (endReception s)) := by
  obtain ⟨hr, hb, hc, hf⟩ := h
  have hc' : frameCheckPasses (endReception s).receive = true := hc
  have hf' : formCheck (endReception s).receive = some f := hf
  rw [exec_frameArrival hr, if_neg hb, judgeFrame, if_pos hc', hf']

theorem dispatchFrame_of_unpaired (h : s.control.selfState = .unpaired) :
    dispatchFrame f s = if f.kind = .offer then adoptOffer f s else s := by
  unfold dispatchFrame
  rw [h]

theorem dispatchFrame_of_paired (h : s.control.selfState ≠ .unpaired) :
    dispatchFrame f s =
      if f.tag ≠ s.control.tag then setFlag .foreign s
      else if s.control.number = some f.sender then clashPath f s else acceptFrame f s := by
  unfold dispatchFrame
  split
  · contradiction
  all_goals rfl

/-- A frame of another tag at a paired station sets FOREIGN alone (R16). -/
theorem frameArrival_foreign (h : ArrivesAs f s) (hp : s.control.selfState ≠ .unpaired) (ht : f.tag ≠ s.control.tag) :
    exec .frameArrival s = .next { endReception s with flags := { s.flags with foreign := true } } := by
  rw [frameArrival_dispatches h, dispatchFrame_of_paired (by simpa using hp), if_pos (by simpa using ht)]
  rfl

/-- At an UNPAIRED station all but an OFFER is left (R16). -/
theorem frameArrival_unpaired (h : ArrivesAs f s) (hu : s.control.selfState = .unpaired) (hk : f.kind ≠ .offer) :
    exec .frameArrival s = .next (endReception s) := by
  rw [frameArrival_dispatches h, dispatchFrame_of_unpaired (by simpa using hu), if_neg hk]

/-- An OFFER at an UNPAIRED station goes to the pairing hand-over (R16, R51). -/
theorem frameArrival_offer (h : ArrivesAs f s) (hu : s.control.selfState = .unpaired) (hk : f.kind = .offer) :
    exec .frameArrival s = .next (adoptOffer f (endReception s)) := by
  rw [frameArrival_dispatches h, dispatchFrame_of_unpaired (by simpa using hu), if_pos hk]

/-- A frame with the station's tag and its own number takes the clash path (R17). -/
theorem frameArrival_clashes (h : ArrivesOnClashPath f s) :
    exec .frameArrival s = .next (clashPath f (endReception s)) := by
  obtain ⟨ha, hp, ht, hn⟩ := h
  rw [frameArrival_dispatches ha, dispatchFrame_of_paired (by simpa using hp)]
  simp [ht, hn]

/-- Any other frame with the station's tag goes to the Peer Table (R18). -/
theorem frameArrival_accepted (h : ArrivesAccepted f s) :
    exec .frameArrival s = .next (acceptFrame f (endReception s)) := by
  obtain ⟨ha, hp, ht, hn⟩ := h
  rw [frameArrival_dispatches ha, dispatchFrame_of_paired (by simpa using hp)]
  simp [ht, hn]

end Arrivals

/-- Settles O17. -/
theorem discardedArrivalsSetTheirFlagAndNothingElse : Obligations.DiscardedArrivalsSetTheirFlagAndNothingElse :=
  ⟨fun _ => frameArrival_noByte, fun _ => frameArrival_checkFail, fun _ => frameArrival_malformed,
    fun _ _ => frameArrival_foreign, fun _ _ => frameArrival_unpaired⟩

/-! ## The pairing hand-over (R51) -/

/-- The window's close with the positions emptied after it abandons an access either way (R29, R34). -/
theorem accessAbandoned_closePairing (s : State) :
    accessAbandoned (closePairing s).transmit = accessAbandoned s.transmit := by
  rw [closePairing, discardOffer_transmit]
  split
  · exact accessAbandoned_accessAbandoned _
  · rfl

/-- Settles O18. -/
theorem offerIsAdoptedWhileTheWindowIsOpen : Obligations.OfferIsAdoptedWhileTheWindowIsOpen := by
  intro f s h hu hk
  rw [frameArrival_offer h hu hk]
  refine ⟨fun hw => ?_, fun hw => ?_⟩
  · rw [adoptOffer, if_neg (by simp [hw])]
  · rw [adoptOffer, if_pos (by simpa [Option.isSome_iff_ne_none] using hw)]
    refine ⟨_, rfl, by simp, by simp [withFlag], by simp, by simp, ?_, ?_, by simp, by simp, by simp⟩
    · simp [joinGroup, closePairing, discardOffer_scheduler]
    · simp [joinGroup_transmit, accessAbandoned_closePairing]

/-! ## The own number heard (R43) -/

theorem ownPresence_iff (f : AirFrame) (s : State) :
    ownPresence f s = true ↔ f.kind = .presence ∧ f.unitId = s.control.unitId := by
  simp [ownPresence]

theorem clashPath_of_active {f : AirFrame} {s : State} (h : s.control.selfState = .active) :
    clashPath f s = if ownPresence f s then s else enterClashed s := by
  unfold clashPath
  rw [h]

/-- Settles O29. -/
theorem ownNumberHeardInActiveOpensAClash : Obligations.OwnNumberHeardInActiveOpensAClash := by
  intro f s h ha
  rw [frameArrival_clashes h, clashPath_of_active (by simpa using ha)]
  simp only [ownPresence_iff, endReception_frame]
  refine ⟨fun hk hu => by rw [if_pos ⟨hk, hu⟩], fun hother => ?_⟩
  rw [if_neg (by tauto)]
  exact ⟨_, rfl, by simp, by simp [withFlag], by simp [withoutVoice], by simp [enterClashed_transmit], by simp, by simp,
    by simp, by simp⟩

/-! ## An accepted frame at the Peer Table (R56 to R70) -/

theorem classChange_eq_afterClass {c : AudioClass} {p : Peer} (h : p.entry.state ≠ .free) :
    classChange c p = afterClass c p := by
  unfold classChange afterClass
  by_cases hc : p.entry.cls = c
  · simp [hc]
  · rw [if_pos ⟨h, hc⟩, if_neg hc, flushIfActive_eq]
    by_cases hi : p.queue.state = .idle <;>
      simp [hi, flushPeer, flushQueue, primed, DriftSums.zero, InputRecord.zero]

/-- A FREE entry has no class to change (R65). -/
theorem classChange_of_free {c : AudioClass} {p : Peer} (h : p.entry.state = .free) : classChange c p = p := by
  unfold classChange
  rw [if_neg (fun e => e.1 h)]

theorem afterClass_entry (c : AudioClass) (p : Peer) : (afterClass c p).entry = { p.entry with cls := c } := by
  unfold afterClass
  split
  · rename_i h
    rw [← h]
  · rfl

/-- A third frame, or one at a STALE entry, flushes the queue to PRIMING and admits the entry (R58, R62). -/
theorem admittedWith_true (p : Peer) :
    withConditions { Conditions.empty with admission := true }
      { flushPeer .priming p with entry := { p.entry with state := .admitted, admission := 3, silence := 0 } } =
    admittedWith true p := by
  simp [withConditions, unionConditions, Conditions.empty, admittedWith, flushPeer, flushQueue, primed, DriftSums.zero,
    InputRecord.zero]

theorem admittedWith_false (p : Peer) :
    { flushPeer .priming p with entry := { p.entry with state := .admitted, silence := 0 } } =
      admittedWith false p := by
  simp [admittedWith, flushPeer, flushQueue, primed, DriftSums.zero, InputRecord.zero]

/-- Steps 2 and 3 of R56 give the entry that the table names, state by state (R57, R58, R61, R62, R65). -/
theorem liveness_classChange (c : AudioClass) (p : Peer) : liveness c (classChange c p) = afterLiveness c p := by
  have hstate : (afterClass c p).entry.state = p.entry.state := by rw [afterClass_entry]
  have hcount : (afterClass c p).entry.admission = p.entry.admission := by rw [afterClass_entry]
  unfold afterLiveness
  cases h : p.entry.state with
  | free =>
    rw [classChange_of_free h, liveness, h]
    rfl
  | heard =>
    rw [classChange_eq_afterClass (by simp [h]), liveness, hstate, h]
    simp only [hcount, admittedWith_true]
    by_cases ha : p.entry.admission < 2
    · rw [if_neg (by omega), if_pos ha]
    · rw [if_pos (by omega), if_neg ha]
  | admitted => rw [classChange_eq_afterClass (by simp [h]), liveness, hstate, h]
  | stale =>
    rw [classChange_eq_afterClass (by simp [h]), liveness, hstate, h]
    exact admittedWith_false _

/-- The whole of what an accepted frame does at its entry, by its kind (R18, R56, R66). -/
theorem acceptAtEntry_eq (g : Settings) (f : AirFrame) (p : Peer) :
    acceptAtEntry g f p = entryAfter g.targetDepth f p := by
  rw [acceptAtEntry, liveness_classChange]
  unfold offerVoice recordIdentifier entryAfter
  cases f.kind <;> rfl

theorem leastSilent_nil (peers : Vector Peer 8) : leastSilent peers [] = none := rfl

/-- A frame whose identifier no entry could give up moves no record (R67, R69). -/
theorem migrationTest_of_movesNoRecord {f : AirFrame} {s : State} (h : MovesNoRecord f s) :
    migrationTest f s = s := by
  cases hk : f.kind with
  | voice | hold | offer => simp [migrationTest, hk]
  | presence =>
    have hsource : migrationSource s.peers f.sender f.unitId = none := by
      unfold migrationSource
      split
      case isFalse => rfl
      rename_i hm
      obtain ⟨hu, hr⟩ := hm
      rcases h with h | h | h | h | h
      · exact absurd hk h
      · exact absurd h hu
      · simp_all [mayReceive_iff, peerAt]
      · simp_all [mayReceive_iff, peerAt]
      · have : holdersOf s.peers f.sender f.unitId = [] := by
          simpa [holdersOf, peerAt] using h
        rw [this, leastSilent_nil]
    simp [migrationTest, hk, hsource]

theorem atCapacity_iff (s : State) (m : Station) :
    atCapacity s m = true ↔ (peerAt s m).entry.state = .free ∧ 7 ≤ entriesInUse s.peers := by
  simp [atCapacity]

/-- An accepted frame that moves no record is refused at capacity, else it moves its entry (R56, R70). -/
theorem acceptFrame_of_movesNoRecord {f : AirFrame} {s : State} (h : MovesNoRecord f s) :
    acceptFrame f s =
      if (peerAt s f.sender).entry.state = .free ∧ 7 ≤ entriesInUse s.peers then refuseFrame f.sender s
      else setPeer f.sender (entryAfter s.settings.targetDepth f (peerAt s f.sender)) s := by
  simp only [acceptFrame, migrationTest_of_movesNoRecord h, atCapacity_iff, updatePeer, acceptAtEntry_eq]

/-- Settles O19. -/
theorem acceptedFrameMovesItsEntry : Obligations.AcceptedFrameMovesItsEntry := by
  intro f s h hm
  have hm' : MovesNoRecord f (endReception s) := hm
  rw [frameArrival_accepted h, acceptFrame_of_movesNoRecord hm']
  refine ⟨fun hroom => ?_, fun hfree hfull => ?_⟩
  · have : ¬ ((peerAt s f.sender).entry.state = .free ∧ 7 ≤ entriesInUse s.peers) := by
      rintro ⟨hfree, hfull⟩
      rcases hroom with hroom | hroom
      · exact hroom hfree
      · omega
    exact congrArg _ (if_neg this)
  · exact congrArg _ (if_pos ⟨hfree, hfull⟩)

end Sys2Proof.Machine

/-! # Events that cannot occur -/

namespace Sys2Proof.Machine

/-! ## When a count falls due -/

theorem presenceDue_iff (s : State) :
    presenceDue s = true ↔ sends s.control.selfState = true ∧ 255 ≤ s.scheduler.presenceCount := by
  simp [presenceDue]

theorem offerDue_iff (s : State) :
    offerDue s = true ↔
      s.control.selfState = .active ∧ s.control.window ≠ none ∧ 31 ≤ s.scheduler.offerCount := by
  simp [offerDue, offering, Option.isSome_iff_ne_none, and_assoc]

/-- A running timer below the value before its limit does not fall due. -/
theorem not_timerDue {limit : Nat} {t : Option Nat} (h : ∀ n ∈ t, n + 1 < limit) : timerDue limit t = false := by
  rw [Bool.eq_false_iff, Ne, timerDue_iff]
  rintro ⟨n, hn, hl⟩
  have := h n hn
  omega

theorem listeningDue_iff (s : State) :
    listeningDue s = true ↔ s.control.selfState = .starting ∧ timerDue 64 s.control.startTimer = true := by
  simp [listeningDue]

theorem clashWaitDue_iff (s : State) :
    clashWaitDue s = true ↔ s.control.selfState = .clashed ∧ timerDue 64 s.control.clashWait = true := by
  simp [clashWaitDue]

theorem retryDue_iff (s : State) :
    retryDue s = true ↔ s.control.selfState = .listenOnly ∧ timerDue 256 s.control.retryCount = true := by
  simp [retryDue]

/-- An entry in another state, or below the value before its limit, does not reach that limit (R59). -/
theorem not_silenceDue {e : Entry} {st : EntryState} {limit : Nat} (hl : silenceLimit st = some limit)
    (h : e.state ≠ st ∨ e.silence + 1 < limit) : e.state ≠ st ∨ silenceDue e ≠ true := by
  refine or_iff_not_imp_left.2 fun hs => ?_
  obtain rfl : e.state = st := not_not.1 hs
  have := h.resolve_left hs
  simp only [silenceDue, hl, Ne, decide_eq_true_eq]
  omega

theorem windowCloses_iff (g : Settings) (p : Peer) :
    windowCloses g p = true ↔
      (∃ c : Cursor, p.queue.state = .playing ∧ p.queue.cursor = some c) ∧ lapseDue p.queue = false ∧
        g.driftWindow ≤ p.drift.depthCount + 1 := by
  simp [windowCloses, Option.isSome_iff_exists, takeCursor_eq_some_iff, and_assoc]

theorem tagWriteDue_iff (s : State) :
    tagWriteDue s = true ↔ s.store.writeState = .idle ∧ s.store.writeQueue ≠ none := by
  simp [tagWriteDue, Option.isSome_iff_ne_none]

/-! ## Events that leave the state -/

section Idle

variable {s : State}

/-- An event that can lead to no other state leaves this one. -/
theorem exec_eq_self {c : Instr} (h : ∀ t : State, exec c s = .next t → t = s) : exec c s = .next s := by
  obtain ⟨t, ht⟩ := exec_completes c s
  rw [ht, h t ht]

theorem startUp_idle (h : s.phase ≠ .held) : exec .startUp s = .next s :=
  exec_eq_self fun _ ht => (execStartUp_cases ht).resolve_right fun ⟨hp, _⟩ => h hp

theorem startUpReadComplete_idle (h : s.phase ≠ .reading) (smi : Vector Bool 256) :
    exec (.startUpReadComplete smi) s = .next s :=
  exec_eq_self fun _ ht => (execStartUpReadComplete_cases ht).resolve_right fun ⟨hp, _⟩ => h hp

theorem airTick_idle (h : s.phase ≠ .running) : exec .airTick s = .next s :=
  exec_eq_self fun _ ht => (execAirTick_cases ht).elim And.right fun ⟨hp, _⟩ => absurd hp h

theorem presenceCountExpiry_idle (h : s.phase ≠ .running ∨ presenceDue s ≠ true) :
    exec .presenceCountExpiry s = .next s :=
  exec_eq_self fun _ ht => (execPresenceCountExpiry_cases ht).resolve_right fun ⟨hp, hd, _⟩ =>
    h.elim (· hp) (· hd)

theorem offerCountExpiry_idle (h : s.phase ≠ .running ∨ offerDue s ≠ true) :
    exec .offerCountExpiry s = .next s :=
  exec_eq_self fun _ ht => (execOfferCountExpiry_cases ht).resolve_right fun ⟨hp, hd, _⟩ => h.elim (· hp) (· hd)

theorem listeningPeriodExpiry_idle (h : s.phase ≠ .running ∨ listeningDue s ≠ true) :
    exec .listeningPeriodExpiry s = .next s :=
  exec_eq_self fun _ ht => (execListeningPeriodExpiry_cases ht).resolve_right fun ⟨hp, hd, _⟩ =>
    h.elim (· hp) (· hd)

theorem clashWaitExpiry_idle (h : s.phase ≠ .running ∨ clashWaitDue s ≠ true) :
    exec .clashWaitExpiry s = .next s :=
  exec_eq_self fun _ ht => (execClashWaitExpiry_cases ht).resolve_right fun ⟨hp, hd, _⟩ => h.elim (· hp) (· hd)

theorem listenOnlyRetry_idle (h : s.phase ≠ .running ∨ retryDue s ≠ true) :
    exec .listenOnlyRetry s = .next s :=
  exec_eq_self fun _ ht => (execListenOnlyRetry_cases ht).resolve_right fun ⟨hp, hd, _⟩ => h.elim (· hp) (· hd)

theorem windowClose_idle (h : s.phase ≠ .running ∨ windowDue s ≠ true) : exec .windowClose s = .next s :=
  exec_eq_self fun _ ht => (execWindowClose_cases ht).resolve_right fun ⟨hp, hd, _⟩ => h.elim (· hp) (· hd)

theorem tagWriteStart_idle (h : s.phase ≠ .running ∨ tagWriteDue s ≠ true) : exec .tagWriteStart s = .next s :=
  exec_eq_self fun _ ht => (execTagWriteStart_cases ht).elim id fun ⟨hp, e⟩ =>
    e.trans (if_neg (h.elim (absurd hp) id))

theorem heardTimeout_idle {k : Station}
    (h : s.phase ≠ .running ∨ (peerAt s k).entry.state ≠ .heard ∨ silenceDue (peerAt s k).entry ≠ true) :
    exec (.heardTimeout k) s = .next s :=
  exec_eq_self fun _ ht => (execHeardTimeout_cases ht).resolve_right fun ⟨hp, hs, hd, _⟩ =>
    h.elim (· hp) fun h => h.elim (· hs) (· hd)

theorem stale_idle {k : Station}
    (h : s.phase ≠ .running ∨ (peerAt s k).entry.state ≠ .admitted ∨ silenceDue (peerAt s k).entry ≠ true) :
    exec (.stale k) s = .next s :=
  exec_eq_self fun _ ht => (execStale_cases ht).resolve_right fun ⟨hp, hs, hd, _⟩ =>
    h.elim (· hp) fun h => h.elim (· hs) (· hd)

theorem peerLost_idle {k : Station}
    (h : s.phase ≠ .running ∨ (peerAt s k).entry.state ≠ .stale ∨ silenceDue (peerAt s k).entry ≠ true) :
    exec (.peerLost k) s = .next s :=
  exec_eq_self fun _ ht => (execPeerLost_cases ht).resolve_right fun ⟨hp, hs, hd, _⟩ =>
    h.elim (· hp) fun h => h.elim (· hs) (· hd)

theorem receptionStart_idle (h : s.receive.state = .receiving) : exec .receptionStart s = .next s :=
  exec_eq_self fun _ ht => by
    rcases execReceptionStart_cases ht with ⟨_, e⟩ | ⟨hr, _⟩ | ⟨hr, _⟩
    · exact e
    all_goals simp [h] at hr

theorem blankedRxvFall_idle (h : s.receive.state = .receiving) : exec .blankedRxvFall s = .next s :=
  exec_eq_self fun _ ht => by
    rcases execBlankedRxvFall_cases ht with ⟨_, e⟩ | ⟨hr, _⟩ | ⟨hr, _⟩
    · exact e
    all_goals simp [h] at hr

theorem frameArrival_idle (h : s.receive.state ≠ .receiving) : exec .frameArrival s = .next s :=
  exec_eq_self fun _ ht => by
    rcases execFrameArrival_cases ht with ⟨_, e⟩ | ⟨hr, _⟩ | ⟨hr, _⟩
    · exact e
    all_goals exact absurd hr h

theorem byteComplete_idle (h : s.receive.state ≠ .receiving) (rxd : Vector Bool 8) :
    exec (.byteComplete rxd) s = .next s :=
  exec_eq_self fun _ ht => (execByteComplete_cases ht).elim And.right fun ⟨hr, _⟩ => absurd hr h

theorem gapExpiry_idle (h : s.transmit.state ≠ .gap ∨ s.cbsy = true) : exec .gapExpiry s = .next s :=
  exec_eq_self fun _ ht => (execGapExpiry_cases ht).resolve_right fun ⟨hg, hc, _⟩ =>
    h.elim (· hg) fun h => by simp [h] at hc

theorem transmissionEnd_idle (h : s.transmit.state ≠ .sending) : exec .transmissionEnd s = .next s :=
  exec_eq_self fun _ ht => by
    rcases execTransmissionEnd_cases ht with ⟨_, e⟩ | ⟨hs, _⟩ | ⟨hs, _⟩
    · exact e
    all_goals exact absurd hs h

theorem blockEvent_idle (h : ¬ BlockEnds s) (adi : List Bool) : exec (.blockEvent adi) s = .next s :=
  exec_eq_self fun _ ht => (execBlockEvent_cases ht).elim And.right fun ⟨hb, _⟩ => absurd hb h

theorem portFrameEnd_idle (h : s.lap.lock ≠ .locked ∨ s.lap.frameCounter = 63) (adi : List Bool) :
    exec (.portFrameEnd adi) s = .next s :=
  exec_eq_self fun _ ht => (execPortFrameEnd_cases ht).resolve_right fun ⟨hl, hf, _⟩ =>
    h.elim (· hl) fun h => by omega

theorem queueLapse_idle {k : Station} (h : ¬ BlockEnds s ∨ lapseDue (peerAt s k).queue ≠ true) :
    exec (.queueLapse k) s = .next s :=
  exec_eq_self fun _ ht => (execQueueLapse_cases ht).resolve_right fun ⟨hb, hd, _⟩ => h.elim (· hb) (· hd)

theorem driftWindowClose_idle {k : Station} (h : ¬ BlockEnds s ∨ windowCloses s.settings (peerAt s k) ≠ true) :
    exec (.driftWindowClose k) s = .next s :=
  exec_eq_self fun _ ht => (execDriftWindowClose_cases ht).resolve_right fun ⟨hb, hd, _⟩ => h.elim (· hb) (· hd)

theorem missedMark_idle (h : s.settings.clock = .master ∨ s.lap.lock = .off) : exec .missedMark s = .next s :=
  exec_eq_self fun _ ht => (execMissedMark_cases ht).resolve_right (by rintro (⟨hc, hl, _⟩ | ⟨hc, hl, _⟩) <;> simp_all)

theorem frameMark_idle (h : s.settings.clock = .master ∨ s.lap.lock = .off) (spacing : Nat) :
    exec (.frameMark spacing) s = .next s :=
  exec_eq_self fun _ ht => (execFrameMark_cases ht).resolve_right (by rintro (⟨hc, hl, _⟩ | ⟨hc, hl, _⟩) <;> simp_all)

theorem computationComplete_idle (h : s.engine.state = .idle) : exec .computationComplete s = .next s :=
  exec_eq_self fun _ ht => (execComputationComplete_cases ht).elim And.right fun ⟨hc, _⟩ => by simp [h] at hc

theorem writeTransactionEnd_idle (h : s.store.writeState ≠ .writing) : exec .writeTransactionEnd s = .next s :=
  exec_eq_self fun _ ht => (execWriteTransactionEnd_cases ht).resolve_right fun ⟨hw, _⟩ => h hw

theorem writeTimeEnd_idle (h : s.store.writeState ≠ .waiting) : exec .writeTimeEnd s = .next s :=
  exec_eq_self fun _ ht => (execWriteTimeEnd_cases ht).resolve_right fun ⟨hw, _⟩ => h hw

theorem writeCompletion_idle (h : s.store.writeState ≠ .checking) (a b : Vector Bool 8) :
    exec (.writeCompletion a b) s = .next s :=
  exec_eq_self fun _ ht => (execWriteCompletion_cases ht).resolve_right fun ⟨hw, _⟩ => h hw

end Idle

/-- Settles O3, clause by clause. -/
theorem eventsThatCannotOccurChangeNothing : Obligations.EventsThatCannotOccurChangeNothing := by
  intro s
  refine ⟨startUp_idle, startUpReadComplete_idle, fun h => ?_,
    fun h => ⟨receptionStart_idle h, blankedRxvFall_idle h⟩, fun h => ⟨frameArrival_idle h, byteComplete_idle h⟩,
    fun h => gapExpiry_idle (.inl h), transmissionEnd_idle,
    fun h adi => ⟨blockEvent_idle (fun e => h e.1) adi, portFrameEnd_idle (.inl h) adi⟩, fun h k => ?_,
    fun h => blockEvent_idle (by rintro ⟨-, e⟩; omega), fun h => portFrameEnd_idle (.inr h),
    fun h => ⟨missedMark_idle h, frameMark_idle h⟩, computationComplete_idle, fun h => ?_,
    writeTransactionEnd_idle, writeTimeEnd_idle, writeCompletion_idle, fun h => ?_, fun h => ?_, fun h => ?_,
    fun h => ?_, fun h => ?_, fun h => ?_, fun k => ⟨fun h => ?_, fun h => ?_, fun h => ?_, fun h => ?_, fun h => ?_⟩⟩
  · exact ⟨airTick_idle h, presenceCountExpiry_idle (.inl h), offerCountExpiry_idle (.inl h),
      listeningPeriodExpiry_idle (.inl h), clashWaitExpiry_idle (.inl h), listenOnlyRetry_idle (.inl h),
      windowClose_idle (.inl h), tagWriteStart_idle (.inl h),
      fun k => ⟨heardTimeout_idle (.inl h), stale_idle (.inl h), peerLost_idle (.inl h)⟩⟩
  · have hb : ¬ BlockEnds s := by
      rintro ⟨hl, hf⟩
      exact h.elim (· hl) fun h => by omega
    exact ⟨queueLapse_idle (.inl hb), driftWindowClose_idle (.inl hb)⟩
  · refine tagWriteStart_idle (.inr ?_)
    rw [Ne, tagWriteDue_iff]
    tauto
  · refine presenceCountExpiry_idle (.inr ?_)
    rw [Ne, presenceDue_iff]
    rintro ⟨hs, hc⟩
    rcases h with h | h
    · simp [h] at hs
    · omega
  · refine offerCountExpiry_idle (.inr ?_)
    rw [Ne, offerDue_iff]
    rintro ⟨ha, hw, hc⟩
    rcases h with h | h | h
    · exact h ha
    · exact hw h
    · omega
  · refine listeningPeriodExpiry_idle (.inr ?_)
    rw [Ne, listeningDue_iff]
    rintro ⟨hs, hd⟩
    rcases h with h | h
    · exact h hs
    · simp [not_timerDue (limit := 64) fun n hn => Nat.succ_lt_succ (h n hn)] at hd
  · refine clashWaitExpiry_idle (.inr ?_)
    rw [Ne, clashWaitDue_iff]
    rintro ⟨hs, hd⟩
    rcases h with h | h
    · exact h hs
    · simp [not_timerDue (limit := 64) fun n hn => Nat.succ_lt_succ (h n hn)] at hd
  · refine listenOnlyRetry_idle (.inr ?_)
    rw [Ne, retryDue_iff]
    rintro ⟨hs, hd⟩
    rcases h with h | h
    · exact h hs
    · simp [not_timerDue (limit := 256) fun n hn => Nat.succ_lt_succ (h n hn)] at hd
  · refine windowClose_idle (.inr ?_)
    rw [windowDue, not_timerDue fun n hn => Nat.succ_lt_succ (h n hn)]
    exact Bool.false_ne_true
  · exact heardTimeout_idle (.inr (not_silenceDue rfl (h.imp_right Nat.succ_lt_succ)))
  · exact stale_idle (.inr (not_silenceDue rfl (h.imp_right Nat.succ_lt_succ)))
  · exact peerLost_idle (.inr (not_silenceDue rfl (h.imp_right Nat.succ_lt_succ)))
  · refine queueLapse_idle (.inr ?_)
    rw [Ne, lapseDue_iff]
    rintro ⟨c, hs, -, -, hc⟩
    rcases h with h | h
    · exact h hs
    · omega
  · refine driftWindowClose_idle (.inr ?_)
    rw [Ne, windowCloses_iff]
    rintro ⟨⟨c, hs, -⟩, -, hd⟩
    rcases h with h | h
    · exact h hs
    · omega

end Sys2Proof.Machine

/-! # Reset and start-up -/

namespace Sys2Proof.Machine

/-! ## The state after reset -/

theorem peerAt_reset (k : Station) : peerAt State.reset k = Peer.powerOn := by simp [peerAt, State.reset]

theorem reset_stationSound : StationSound State.reset ∧ TimersSound State.reset := by
  simp [StationSound, TimersSound, State.reset, StationControl.powerOn, Scheduler.powerOn, sends, offering, isVoice]

theorem reset_entriesSound : EntriesSound State.reset := fun k => by
  simp [EntrySound, peerAt_reset, Peer.powerOn, Entry.powerOn]

theorem reset_tableSound : TableSound State.reset := by
  refine ⟨by decide, fun k _ => by simp [peerAt_reset, Peer.powerOn, Entry.powerOn]⟩

theorem reset_queuesSound : QueuesSound State.reset :=
  ⟨by decide, by decide, fun k => by simp [QueueSound, peerAt_reset, Peer.powerOn, Entry.powerOn, Queue.powerOn]⟩

theorem reset_slotsInSequence : SlotsInSequence State.reset :=
  ⟨reset_queuesSound, fun k => by simp [peerAt_reset, Peer.powerOn, Queue.powerOn]⟩

theorem reset_driftSound : DriftSound State.reset :=
  ⟨reset_queuesSound, fun k => by
    rw [peerAt_reset]
    decide⟩

theorem reset_levelsSound : LevelsSound State.reset := by
  refine ⟨by decide, by decide, by decide, by decide, fun _ => rfl, fun k => ?_⟩
  simp [peerAt_reset, Peer.powerOn, RecordSound, InputRecord.zero]

/-- The state after reset is a state at power-on. -/
theorem reset_linkSound : LinkSound State.reset := powerOn_linkSound State.reset

theorem reset_portSound : PortSound State.reset := by decide

theorem reset_storeSound : StoreSound State.reset ∧ ScanSound State.reset := by decide

/-! ## The output pins -/

/-- With no playback block ADO is not driven (R150, R152). -/
theorem adoPin_of_no_playback {s : State} (h : s.lap.playback = none) (c : BitClock) : adoPin s c = .highZ := by
  unfold adoPin
  split
  · simp_all
  · rfl

theorem afrmPin_of_not_drives {s : State} (h : drivesPort s = false) (c : BitClock) : afrmPin s c = .highZ := by
  simp [afrmPin, h]

theorem abckPin_of_not_drives {s : State} (h : drivesPort s = false) (k : ClockHalf) : abckPin s k = .highZ := by
  simp [abckPin, h]

theorem driven_decide (p : Prop) [Decidable p] : driven (decide p) = if p then .high else .low := by
  by_cases h : p <;> simp [driven, h]

/-- SCK rises in the second half of each period of a transaction, and is low outside one (R171). -/
theorem sck_eq (s : State) (k : ClockHalf) : sck s k = (s.store.transaction.isSome && k == .rising) := rfl

/-- Settles O8. -/
theorem resetStateIsSound : Obligations.ResetStateIsSound := by
  obtain ⟨hstation, htimers⟩ := reset_stationSound
  obtain ⟨hstore, hscan⟩ := reset_storeSound
  have hdrives : drivesPort State.reset = false := by decide
  exact ⟨⟨hstation, htimers, reset_entriesSound, reset_tableSound, reset_queuesSound, reset_slotsInSequence,
      reset_driftSound, reset_levelsSound, reset_linkSound, reset_portSound, hstore, hscan⟩,
    rfl, rfl, rfl, rfl, rfl, rfl, rfl, rfl, rfl, rfl, rfl, rfl, rfl, rfl,
    fun k => ⟨by simp [sck_eq, State.reset, StoreUnit.powerOn], abckPin_of_not_drives hdrives k⟩,
    fun c => ⟨adoPin_of_no_playback rfl c, afrmPin_of_not_drives hdrives c⟩, peerAt_reset⟩

/-! ## RESETN and the start-up read (R171, R172) -/

/-- Settles O9. -/
theorem resetnLowAndStartUp : Obligations.ResetnLowAndStartUp := by
  refine ⟨fun s => rfl, fun s h => ⟨?_, rfl⟩, fun s => ⟨fun h => ?_, fun h => ?_⟩⟩
  · change execStartUp s = _
    simp [execStartUp, h, startUpTransaction]
  · simp [ssn, sck_eq, h]
  · simp [ssn, sck_eq, Option.isSome_iff_ne_none, h]

/-- Station Control loads the stored tag: UNPAIRED for 0, STARTING for any other (R39). -/
theorem loadTag_control (tag : Tag) (s : State) (h : s.control = StationControl.powerOn s.control.unitId) :
    (loadTag tag s).control =
      { selfState := if tag = 0 then .unpaired else .starting
        number := none, tag := tag, unitId := s.control.unitId, window := none
        startTimer := if tag = 0 then none else some 0
        clashWait := none, retryCount := none } := by
  unfold loadTag
  split
  · rename_i ht
    rw [h, ht]
    rfl
  · rw [enterStarting_control, h]
    simp [StationControl.powerOn]

/-- Nothing is pending at power-on, so loading the tag leaves the Scheduler (R36). -/
theorem loadTag_scheduler (tag : Tag) (s : State) (h : s.scheduler = Scheduler.powerOn) :
    (loadTag tag s).scheduler = Scheduler.powerOn := by
  unfold loadTag
  split
  · exact h
  · rw [enterStarting_scheduler, h]
    rfl

/-- The transmit side is IDLE, so loading the tag leaves it (R31). -/
theorem loadTag_transmit (tag : Tag) (s : State) (h : s.transmit.state = .idle) :
    (loadTag tag s).transmit = s.transmit := by
  unfold loadTag
  split
  · rfl
  · simp [enterStarting_transmit, accessAbandoned, h]

/-- A MASTER port starts LOCKED in the lead-in, a SLAVE port UNLOCKED (R152, R153). -/
theorem startLap_powerOn (clock : ClockSource) :
    startLap clock Lap.powerOn =
      { lock := if clock = .master then .locked else .unlocked
        markCount := 0, frameCounter := 0, leadIn := if clock = .master then true else false
        assembly := [], playback := none, heldWord := 0 } := by
  cases clock <;> rfl

/-- A port that drives its clock and stands in frame 0 of the lead-in (R147, R152). -/
theorem masterPort_pins {t : State} (hc : t.settings.clock = .master) (hl : t.lap.lock = .locked)
    (hlead : t.lap.leadIn = true) (hf : t.lap.frameCounter = 0) :
    let g := t.settings
    let p := g.slotCount * g.slotWidth
    let frame := (List.range p).map BitClock.ofFrame
    abckPin t .falling = .low ∧ abckPin t .rising = .high ∧
    (g.markPosition = .onBitZero → bitClocks t = frame ∧
      ∀ j : Nat, afrmPin t (.ofFrame j) = if j = 0 then .high else .low) ∧
    (g.markPosition = .early → bitClocks t = .extra :: frame ∧ afrmPin t .extra = .high ∧
      ∀ j : Nat, afrmPin t (.ofFrame j) = if j + 1 = p then .high else .low) := by
  have hdrives : drivesPort t = true := (drivesPort_iff t).2 ⟨hc, hl⟩
  refine ⟨by simp [abckPin, hdrives, clockLevel, driven], by simp [abckPin, hdrives, clockLevel, driven],
    fun hm => ⟨?_, fun j => ?_⟩, fun hm => ⟨?_, ?_, fun j => ?_⟩⟩
  · have : extraFirst t = false := by simp [extraFirst, hm]
    simp [bitClocks, this, frameLength]
  · simp only [afrmPin, hdrives, if_true, afrmBit, hm]
    exact driven_decide _
  · have : extraFirst t = true := (extraFirst_iff t).2 ⟨hl, hc, hm, hlead, hf⟩
    simp [bitClocks, this, frameLength]
  · simp [afrmPin, hdrives, afrmBit, hm, driven]
  · simp only [afrmPin, hdrives, if_true, afrmBit, hm]
    exact driven_decide _

/-- The state that the end of the start-up read leaves, by the image (R172). -/
def started (image : Image) (s : State) : State := loadTag (tagOf image) (leavePowerOn (settingsOf image) s)

theorem exec_startUpReadComplete {image : Image} {smi : Vector Bool 256} {s : State} (h : s.phase = .reading)
    (hi : Carries image smi) : exec (.startUpReadComplete smi) s = .next (started image s) := by
  change execStartUpReadComplete smi s = _
  unfold execStartUpReadComplete
  rw [h, smiImage_of_carries hi, started]

/-- What start-up does not load from the image stands at its power-on value (R172). -/
theorem started_powerOn (image : Image) (s : State) :
    (started image s).peers = Vector.replicate 8 Peer.powerOn ∧ (started image s).sidetone = InputRecord.zero ∧
    (started image s).engine = MixEngine.powerOn ∧ (started image s).flags = Flags.clear ∧
    (started image s).scanIndex = 0 ∧ (started image s).store = StoreUnit.powerOn := by
  simp [started, leavePowerOn, powerOn, State.reset]

theorem started_settings (image : Image) (s : State) : (started image s).settings = settingsOf image := by
  simp [started, leavePowerOn]

theorem started_lap (image : Image) (s : State) :
    (started image s).lap =
      { lock := if (settingsOf image).clock = .master then .locked else .unlocked
        markCount := 0, frameCounter := 0, leadIn := if (settingsOf image).clock = .master then true else false
        assembly := [], playback := none, heldWord := 0 } := by
  simp only [started, leavePowerOn, loadTag_frame, startLap_powerOn]

/-- Settles O10. -/
theorem startUpReadCompleteStartsTheBlocks : Obligations.StartUpReadCompleteStartsTheBlocks := by
  intro image smi s h hi
  obtain ⟨hpeers, hsidetone, hengine, hflags, hscan, hstore⟩ := started_powerOn image s
  have hlap := started_lap image s
  have hsettings := started_settings image s
  refine ⟨_, exec_startUpReadComplete h hi, by simp [started, leavePowerOn], hsettings, by simp [started],
    by simp [started], by simp [started, leavePowerOn], loadTag_transmit _ _ rfl, loadTag_scheduler _ _ rfl,
    loadTag_control _ _ rfl, hpeers, hsidetone, hengine, hlap, hflags, hscan, hstore, by simp [started],
    adoPin_of_no_playback (by rw [hlap]), fun hc => ?_, fun hc => ?_⟩
  · rw [hc] at hlap
    have hpins := masterPort_pins (by rw [hsettings, hc]) (by rw [hlap]; rfl) (by rw [hlap]; rfl) (by rw [hlap])
    rwa [hsettings] at hpins
  · have hdrives : drivesPort (started image s) = false := by
      rw [drivesPort, hsettings, hc]
      rfl
    exact ⟨abckPin_of_not_drives hdrives, afrmPin_of_not_drives hdrives⟩

end Sys2Proof.Machine

/-! # The end of a gap and the end of a transmission -/

namespace Sys2Proof.Machine

/-- GAP_EXPIRY with CBSY low sends the frame chosen (R32). -/
theorem exec_gapExpiry {s : State} (hg : s.transmit.state = .gap) (hc : s.cbsy = false) :
    exec .gapExpiry s = .next (sendChosen s) := by
  change execGapExpiry s = _
  rw [execGapExpiry, if_pos ⟨hg, hc⟩]

theorem roleClass_eq (r : Role) : roleClass r = if r = .gateway then .far else .near := by cases r <;> rfl

/-- The header of a station that holds a number (R24). -/
theorem headerFill_of_number {s : State} {n : Station} (h : s.control.number = some n) :
    headerFill s =
      { cls := if s.settings.role = .gateway then .far else .near
        number := n, tag := s.control.tag, sequence := s.scheduler.sequence, unitId := s.control.unitId
        role := s.settings.role, selfState := s.control.selfState } := by
  simp [headerFill, h, roleClass_eq]

/-- Settles O41. -/
theorem gapExpirySendsTheChosenFrame : Obligations.GapExpirySendsTheChosenFrame := by
  refine ⟨fun n a s hg hc hn ha => ?_, fun n f s hg hc hn ha hf => ?_, fun s _ hc => gapExpiry_idle (.inr hc)⟩
  · rw [exec_gapExpiry hg hc, ← headerFill_of_number hn, sendChosen, ha]
    rfl
  · rw [exec_gapExpiry hg hc, ← headerFill_of_number hn, sendChosen, ha, hf]
    rfl

theorem enterDefer_eq (s : State) :
    enterDefer s = { s with transmit := if s.cbsy then { s.transmit with state := .defer, gapTimer := none }
      else { s.transmit with state := .gap, gapTimer := some (gapLength s.control.number) } } := by
  unfold enterDefer
  split <;> rfl

/-- Settles O42: by whether a frame is pending. -/
theorem transmissionEndReturnsTheSides : Obligations.TransmissionEndReturnsTheSides := by
  intro s hs
  change execTransmissionEnd s = _
  unfold execTransmissionEnd
  rw [hs]
  simp only [unblank_eq, enterDefer_eq, gapLength_eq]
  by_cases hp : s.scheduler.audio = none ∧ s.scheduler.announce = none
  · rw [(framePending_eq_false_iff s).2 hp, if_pos hp, if_neg Bool.false_ne_true]
  · have hpending : framePending s = true := by
      rw [← Bool.not_eq_false, framePending_eq_false_iff]
      exact hp
    rw [hpending, if_neg hp]
    exact congrArg _ (if_pos rfl)

end Sys2Proof.Machine

/-! # Station Control and the pending positions stay sound -/

namespace Sys2Proof.Machine

/-! ## A property that every stage of a control word keeps -/

/-- What CLEAR, FORGET and PAIR keep, and the held word and trim step do not speak of, a control word keeps
(R54, R159 to R161). -/
theorem takeControl_induction {P : State → Prop} {s : State} (w : Option (BitVec 16)) (h : P s)
    (clear : ∀ u : State, P u → P (clearFlags u)) (free : ∀ u : State, P u → P (forget u))
    (pair : ∀ u : State, P u → P (openPairing u))
    (hold : ∀ (u : State) (v : BitVec 16), P u →
      P { u with lap := { u.lap with heldWord := v }, engine := { u.engine with trimStep := wordTrim v } }) :
    P (takeControl w s) := by
  have either : ∀ {c : Bool} {u v : State}, P u → P v → P (if c = true then u else v) := fun hu hv => by
    split
    · exact hu
    · exact hv
  unfold takeControl
  split
  · exact h
  · split
    · have hcleared := either (c := rises wordClear s.lap.heldWord ‹_›) (clear _ h) h
      have hfreed := either (c := rises wordForget s.lap.heldWord ‹_›) (free _ hcleared) hcleared
      exact hold _ _ (either (pair _ hfreed) hfreed)
    · exact h

/-! ## The parts of a sound station -/

/-- Station Control against R38's table: a tag, a number and a timer exactly where the state has one. -/
def ControlSound (c : StationControl) : Prop :=
  (c.selfState = .unpaired ↔ c.tag = 0) ∧ c.number.isSome = sends c.selfState ∧
  (c.startTimer.isSome ↔ c.selfState = .starting) ∧ (c.clashWait.isSome ↔ c.selfState = .clashed) ∧
  (c.retryCount.isSome ↔ c.selfState = .listenOnly)

/-- OFFERs are sent: in ACTIVE while the window is open (R28). -/
def offersIn (c : StationControl) : Bool := c.selfState == .active && c.window.isSome

/-- What the Scheduler may hold and count for a Station Control (R27 to R29). -/
def PendingSound (c : StationControl) (q : Scheduler) : Prop :=
  (sends c.selfState = false → q.audio = none ∧ q.announce = none ∧ q.presenceCount = 0) ∧
  (offersIn c = false → q.offerCount = 0 ∧ q.announce ≠ some .offer) ∧
  (c.selfState = .clashed → isVoice q.audio = false) ∧ q.presenceCount ≤ 255 ∧ q.offerCount ≤ 31

theorem offering_eq (s : State) : offering s = offersIn s.control := rfl

theorem stationSound_iff (s : State) :
    StationSound s ↔ ControlSound s.control ∧ PendingSound s.control s.scheduler := by
  simp only [StationSound, ControlSound, PendingSound, offering_eq, and_assoc]

section Moves

variable {s t : State}

theorem StationSound.congr (h : StationSound s) (hc : t.control = s.control) (hq : t.scheduler = s.scheduler) :
    StationSound t := by
  rw [stationSound_iff] at h ⊢
  rwa [hc, hq]

/-- A paired station is one with a tag. -/
theorem StationSound.paired (h : StationSound s) : s.control.selfState ≠ .unpaired ↔ s.control.tag ≠ 0 := by
  obtain ⟨htag, -⟩ := h
  exact not_congr htag

theorem StationSound.number_isSome (h : StationSound s) : s.control.number.isSome = sends s.control.selfState := by
  obtain ⟨-, hnumber, -⟩ := h
  exact hnumber

/-- A station that does not send has nothing pending and counts nothing (R29). -/
theorem StationSound.silent (h : StationSound s) (hs : sends s.control.selfState = false) :
    s.scheduler.audio = none ∧ s.scheduler.announce = none ∧ s.scheduler.presenceCount = 0 ∧
      s.scheduler.offerCount = 0 := by
  obtain ⟨-, -, -, -, -, hsilent, hoffers, -⟩ := h
  obtain ⟨haudio, hannounce, hcount⟩ := hsilent hs
  have : offering s = false := by
    rw [offering_eq, offersIn]
    cases hst : s.control.selfState <;> simp_all [sends]
  exact ⟨haudio, hannounce, hcount, (hoffers this).1⟩

/-! ## The changes of self state -/

/-- A paired station enters ACTIVE with a number: no timer of the state before runs on (R38, R42). -/
theorem enterActive_stationSound (n : Station) (h : StationSound s) (hp : s.control.selfState ≠ .unpaired) :
    StationSound (enterActive n s) := by
  have ht := h.paired.1 hp
  rw [stationSound_iff]
  simpa [ControlSound, PendingSound, sends] using ht

/-- CLASHED is entered from ACTIVE: the number is kept, and no VOICE stays pending (R38, R43). -/
theorem enterClashed_stationSound (h : StationSound s) (ha : s.control.selfState = .active) :
    StationSound (enterClashed s) := by
  obtain ⟨htag, hnum, hstart, hwait, hretry, -, -, -, hcount, -⟩ := h
  simp only [ha, sends] at htag hnum hstart hretry
  rw [stationSound_iff]
  simp_all [ControlSound, PendingSound, sends]

/-- LISTEN-ONLY keeps the tag alone (R38, R47). -/
theorem enterListenOnly_stationSound (h : StationSound s) (hp : s.control.selfState ≠ .unpaired) :
    StationSound (enterListenOnly s) := by
  have ht := h.paired.1 hp
  rw [stationSound_iff]
  simpa [ControlSound, PendingSound, sends, isVoice] using ht

/-- STARTING is sound for any tag but 0, whatever the state before (R38, R39). -/
theorem enterStarting_stationSound {tag : Tag} (ht : tag ≠ 0) (s : State) : StationSound (enterStarting tag s) := by
  rw [stationSound_iff]
  simpa [ControlSound, PendingSound, sends, isVoice] using ht

theorem joinGroup_stationSound {tag : Tag} (ht : tag ≠ 0) (s : State) : StationSound (joinGroup tag s) :=
  enterStarting_stationSound ht _

/-- FORGET leaves a station without a tag, UNPAIRED, with nothing pending (R38, R53). -/
theorem forget_stationSound (s : State) : StationSound (forget s) := by
  rw [stationSound_iff]
  simp [forget, StationControl.powerOn, ControlSound, PendingSound, sends, isVoice]

/-- A created tag is never 0 (R50). -/
theorem createdTag_ne_zero (u : UnitId) : createdTag u ≠ 0 := by
  unfold createdTag
  split
  · decide
  · assumption

/-! ## The Scheduler's own moves -/

/-- A frame placed in the audio position of a station that sends; in CLASHED it is no VOICE (R29, R38). -/
theorem placeAudio_stationSound {f : AudioFrame} (h : StationSound s) (hs : sends s.control.selfState = true)
    (hv : s.control.selfState = .clashed → isVoice (some f) = false) : StationSound (placeAudio f s) := by
  obtain ⟨hc, -, hoffer, -, hcounts⟩ := (stationSound_iff s).1 h
  simp only [stationSound_iff, placeAudio_scheduler, placeAudio_frame]
  exact ⟨hc, by simp [hs], hoffer, hv, hcounts⟩

/-- A PRESENCE is pending in the states that send alone (R29). -/
theorem placePresence_stationSound (h : StationSound s) (hs : sends s.control.selfState = true) :
    StationSound (placePresence s) := by
  obtain ⟨hc, -, hoffer, hrest⟩ := (stationSound_iff s).1 h
  simp only [stationSound_iff, placePresence_scheduler, placePresence_frame]
  exact ⟨hc, by simp [hs], fun ho => ⟨(hoffer ho).1, by simp⟩, hrest⟩

/-- An OFFER is pending while OFFERs are sent alone (R28, R29). -/
theorem placeOffer_stationSound (h : StationSound s) (ho : offering s = true) : StationSound (placeOffer s) := by
  have ha : s.control.selfState = .active := by
    simp only [offering, Bool.and_eq_true, beq_iff_eq] at ho
    exact ho.1
  obtain ⟨hc, -, -, hrest⟩ := (stationSound_iff s).1 h
  simp only [stationSound_iff, placeOffer_scheduler, placeOffer_frame]
  refine ⟨hc, by simp [ha, sends], fun e => ?_, hrest⟩
  rw [← offering_eq, ho] at e
  contradiction

/-- Whatever leaves its position leaves the rest as sound. -/
theorem PendingSound.fewer {c : StationControl} {q : Scheduler} (h : PendingSound c q) {au : Option AudioFrame}
    {an : Option AnnounceFrame} (hau : au = q.audio ∨ au = none) (han : an = q.announce ∨ an = none) :
    PendingSound c { q with audio := au, announce := an } := by
  obtain ⟨hsilent, hoffers, hvoice, hcounts⟩ := h
  refine ⟨fun hs => ?_, fun ho => ?_, fun hcl => ?_, hcounts⟩
  · obtain ⟨h1, h2, h3⟩ := hsilent hs
    exact ⟨hau.elim (·.trans h1) id, han.elim (·.trans h2) id, h3⟩
  · obtain ⟨h1, h2⟩ := hoffers ho
    rcases han with rfl | rfl
    · exact ⟨h1, h2⟩
    · exact ⟨h1, by simp⟩
  · rcases hau with rfl | rfl
    · exact hvoice hcl
    · rfl

/-- The window's close takes a pending OFFER and the offer count (R28, R49). -/
theorem closePairing_scheduler (s : State) :
    (closePairing s).scheduler =
      { s.scheduler with
        announce := if s.scheduler.announce = some .offer then none else s.scheduler.announce, offerCount := 0 } := by
  simp [closePairing, discardOffer_scheduler]

/-- The window closes with no OFFER left and the offer count at 0 (R28, R49). -/
theorem closePairing_stationSound (h : StationSound s) : StationSound (closePairing s) := by
  obtain ⟨hc, hsilent, -, hvoice, hcount, -⟩ := (stationSound_iff s).1 h
  simp only [stationSound_iff, closePairing_control, closePairing_scheduler]
  refine ⟨hc, fun hs => ?_, fun _ => ⟨rfl, ?_⟩, hvoice, hcount, Nat.zero_le _⟩
  · obtain ⟨haudio, hannounce, hzero⟩ := hsilent hs
    exact ⟨haudio, by simp [hannounce], hzero⟩
  · split <;> simp_all

/-- A rising PAIR opens the window, and may create a tag (R49, R50). -/
theorem openPairing_stationSound (h : StationSound s) : StationSound (openPairing s) := by
  unfold openPairing
  split
  · exact joinGroup_stationSound (createdTag_ne_zero _) _
  · obtain ⟨hc, hsilent, hoffers, hrest⟩ := (stationSound_iff s).1 h
    rw [stationSound_iff]
    refine ⟨hc, hsilent, fun ho => hoffers ?_, hrest⟩
    simp_all [offersIn]

/-! ## The air tick -/

/-- The transmit event of an air tick is one of a station that sends: it places a frame, no VOICE in CLASHED,
with the held block taken or UNDERRUN set before it or neither (R22, R29, R30). -/
theorem pacedTransmit_cases (s : State) :
    pacedTransmit s = s ∨
    ∃ (f : AudioFrame) (u : State), sends s.control.selfState = true ∧
      (s.control.selfState = .clashed → isVoice (some f) = false) ∧
      (u = s ∨ u = dropHeld s ∨ u = setFlag .underrun s) ∧ pacedTransmit s = placeAudio f u := by
  unfold pacedTransmit
  split
  case h_2 ha =>
    have hs : sends s.control.selfState = true := by simp [ha, sends]
    have hv : ∀ f : AudioFrame, s.control.selfState = .clashed → isVoice (some f) = false := by simp [ha]
    unfold pacedActive
    split
    · exact .inr ⟨_, _, hs, hv _, .inr (.inl rfl), rfl⟩
    · exact .inr ⟨_, _, hs, hv _, .inl rfl, rfl⟩
    · split
      · exact .inr ⟨_, _, hs, hv _, .inl rfl, rfl⟩
      · exact .inr ⟨_, _, hs, hv _, .inr (.inr rfl), rfl⟩
  case h_3 hc =>
    have hs : sends s.control.selfState = true := by simp [hc, sends]
    unfold pacedClashed
    split
    · exact .inr ⟨_, _, hs, fun _ => rfl, .inl rfl, rfl⟩
    · exact .inr ⟨_, _, hs, fun _ => rfl, .inr (.inl rfl), rfl⟩
    · split
      · exact .inr ⟨_, _, hs, fun _ => rfl, .inl rfl, rfl⟩
      · exact .inr ⟨_, _, hs, fun _ => rfl, .inr (.inr rfl), rfl⟩
  all_goals exact .inl rfl

theorem pacedTransmit_stationSound (h : StationSound s) : StationSound (pacedTransmit s) := by
  obtain e | ⟨f, u, hs, hv, hu, e⟩ := pacedTransmit_cases s <;> rw [e]
  · exact h
  · have hu' : StationSound u ∧ u.control = s.control := by
      rcases hu with rfl | rfl | rfl
      · exact ⟨h, rfl⟩
      · exact ⟨h, rfl⟩
      · exact ⟨h, rfl⟩
    obtain ⟨hsound, hcontrol⟩ := hu'
    exact placeAudio_stationSound hsound (by rwa [hcontrol]) (by rwa [hcontrol])

theorem presenceExpiry_stationSound (h : StationSound s) (hs : sends s.control.selfState = true) :
    StationSound (presenceExpiry s) := by
  refine placePresence_stationSound ?_ hs
  obtain ⟨hc, hsilent, hoffers, hvoice, -, hcount⟩ := (stationSound_iff s).1 h
  rw [stationSound_iff]
  exact ⟨hc, by simp [hs], hoffers, hvoice, Nat.zero_le _, hcount⟩

/-- The presence count stays below its limit, and runs in the states that send alone (R27, R29). -/
theorem presenceTick_stationSound (h : StationSound s) : StationSound (presenceTick s) := by
  unfold presenceTick
  split
  · obtain ⟨hs, -⟩ := (presenceDue_iff s).1 ‹_›
    exact presenceExpiry_stationSound h hs
  · rename_i hd
    split
    · rename_i hs
      obtain ⟨hc, hsilent, hoffers, hvoice, hcount, hcount'⟩ := (stationSound_iff s).1 h
      rw [stationSound_iff]
      refine ⟨hc, by simp [hs], hoffers, hvoice, ?_, hcount'⟩
      rw [presenceDue_iff] at hd
      simp only [hs, true_and] at hd
      simp only
      omega
    · exact h

theorem offerExpiry_stationSound (h : StationSound s) (ho : offering s = true) : StationSound (offerExpiry s) := by
  refine placeOffer_stationSound ?_ ho
  obtain ⟨hc, hsilent, hoffers, hvoice, hcount, -⟩ := (stationSound_iff s).1 h
  rw [stationSound_iff]
  exact ⟨hc, hsilent, fun e => ⟨rfl, (hoffers e).2⟩, hvoice, hcount, Nat.zero_le _⟩

theorem offering_of_offerDue (h : offerDue s = true) : offering s = true := by
  simp only [offerDue, Bool.and_eq_true] at h
  obtain ⟨ho, -⟩ := h
  exact ho

/-- The offer count stays below its limit, and runs while OFFERs are sent alone (R28, R29). -/
theorem offerTick_stationSound (h : StationSound s) : StationSound (offerTick s) := by
  unfold offerTick
  split
  · exact offerExpiry_stationSound h (offering_of_offerDue ‹_›)
  · rename_i hd
    split
    · rename_i ho
      obtain ⟨hc, hsilent, hoffers, hvoice, hcount, hcount'⟩ := (stationSound_iff s).1 h
      rw [stationSound_iff]
      refine ⟨hc, hsilent, fun e => ?_, hvoice, hcount, ?_⟩
      · rw [offering_eq] at ho
        simp only [ho] at e
        contradiction
      · simp only [offerDue, ho, Bool.true_and, decide_eq_true_eq] at hd
        simp only
        omega
    · exact h

theorem listeningExpiry_stationSound (h : StationSound s) (hp : s.control.selfState ≠ .unpaired) :
    StationSound (listeningExpiry s) := by
  unfold listeningExpiry
  split
  · exact enterActive_stationSound _ h hp
  · exact enterListenOnly_stationSound h hp

theorem clashWaitExpires_stationSound (h : StationSound s) (hp : s.control.selfState ≠ .unpaired) :
    StationSound (clashWaitExpires s) := by
  unfold clashWaitExpires
  split
  · exact enterActive_stationSound _ h hp
  · exact h

theorem retryChoice_stationSound (h : StationSound s) (hl : s.control.selfState = .listenOnly) :
    StationSound (retryChoice s) := by
  unfold retryChoice
  split
  · rename_i n _
    exact (enterActive_stationSound n h (by simp [hl])).congr (by simp) (by simp)
  · obtain ⟨hc, hq⟩ := (stationSound_iff s).1 h
    rw [stationSound_iff]
    refine ⟨?_, hq⟩
    simp_all [ControlSound]

/-- A timer raised by one runs in the state it ran in. -/
theorem timerTick_isSome (t : Option Nat) : (timerTick t).isSome = t.isSome := by simp [timerTick]

theorem controlTick_stationSound (h : StationSound s) : StationSound (controlTick s) := by
  obtain ⟨⟨htag, hnum, hstart, hwait, hretry⟩, hq⟩ := (stationSound_iff s).1 h
  unfold controlTick
  split
  case h_1 hs =>
    split
    · exact listeningExpiry_stationSound h (by simp [hs])
    · exact (stationSound_iff _).2 ⟨⟨htag, hnum, by rwa [timerTick_isSome], hwait, hretry⟩, hq⟩
  case h_2 hs =>
    split
    · exact clashWaitExpires_stationSound h (by simp [hs])
    · exact (stationSound_iff _).2 ⟨⟨htag, hnum, hstart, by rwa [timerTick_isSome], hretry⟩, hq⟩
  case h_3 hs =>
    split
    · exact retryChoice_stationSound h hs
    · exact (stationSound_iff _).2 ⟨⟨htag, hnum, hstart, hwait, by rwa [timerTick_isSome]⟩, hq⟩
  all_goals exact h

theorem windowTick_stationSound (h : StationSound s) : StationSound (windowTick s) := by
  unfold windowTick
  split
  · exact closePairing_stationSound h
  · obtain ⟨hc, hsilent, hoffers, hrest⟩ := (stationSound_iff s).1 h
    refine (stationSound_iff _).2 ⟨hc, hsilent, fun ho => hoffers ?_, hrest⟩
    rwa [offersIn, timerTick_isSome] at ho

theorem airTickInOrder_stationSound (o : Bool) (h : StationSound s) : StationSound (airTickInOrder o s) := by
  have hs := offerTick_stationSound (presenceTick_stationSound (pacedTransmit_stationSound h))
  have htable : ∀ {u : State}, StationSound u → StationSound (tableTick u) := fun hu =>
    hu.congr (by simp) (by simp)
  have hstore : ∀ {u : State}, StationSound u → StationSound (storeTick u) := fun hu =>
    hu.congr (by simp) (by simp)
  refine hstore (windowTick_stationSound ?_)
  cases o with
  | true => exact htable (controlTick_stationSound hs)
  | false => exact controlTick_stationSound (htable hs)

/-! ## The block event -/

theorem takeControl_stationSound (w : Option (BitVec 16)) (h : StationSound s) : StationSound (takeControl w s) :=
  takeControl_induction w h (fun _ hu => hu) (fun u _ => forget_stationSound u) (fun _ hu => openPairing_stationSound hu)
    fun _ _ hu => hu

/-- The transmit event of a block event is one of a station that sends, and makes no VOICE in CLASHED (R23,
R30). -/
theorem onDataTransmit_stationSound (b : HeldBlock) (h : StationSound s) : StationSound (onDataTransmit b s) := by
  unfold onDataTransmit
  split
  case h_1 ha _ => exact placeAudio_stationSound h (by simp [ha, sends]) (by simp [ha])
  case h_2 ha _ => exact placeAudio_stationSound h (by simp [ha, sends]) (by simp [ha])
  case h_3 hc _ => exact placeAudio_stationSound h (by simp [hc, sends]) fun _ => rfl
  case h_4 hc _ => exact placeAudio_stationSound h (by simp [hc, sends]) fun _ => rfl
  all_goals exact h

/-- The held block is no part of what Station Control bounds. -/
theorem holdBlock_stationSound (b : HeldBlock) (h : StationSound s) : StationSound (holdBlock b s) := by
  unfold holdBlock
  split
  · exact h
  · rw [stationSound_iff, setFlagIf]
    split <;> exact (stationSound_iff s).1 h

theorem captureHandover_stationSound (b : Block) (h : StationSound s) : StationSound (captureHandover b s) := by
  unfold captureHandover
  simp only []
  split
  · exact holdBlock_stationSound _ h
  · exact onDataTransmit_stationSound _ h

theorem blockEvent_stationSound (adi : List Bool) (h : StationSound s) : StationSound (blockEvent adi s) :=
  (captureHandover_stationSound (completedCapture adi s) (takeControl_stationSound (controlWord s.settings adi) h)).congr
    (by simp [blockEvent]) (by simp [blockEvent])

/-! ## Reception -/

theorem settleClash_stationSound (u : UnitId) (h : StationSound s) (hp : s.control.selfState ≠ .unpaired) :
    StationSound (settleClash u s) := by
  unfold settleClash
  split
  · split
    · exact enterActive_stationSound _ h hp
    · exact h
  · split
    · split
      · exact enterActive_stationSound _ h hp
      · exact enterListenOnly_stationSound h hp
    · exact h

theorem clashPath_stationSound (f : AirFrame) (h : StationSound s) : StationSound (clashPath f s) := by
  unfold clashPath
  split
  case h_1 ha =>
    split
    · exact h
    · exact enterClashed_stationSound h ha
  case h_2 hc =>
    split
    · exact settleClash_stationSound _ h (by simp [hc])
    · exact h
  all_goals exact h

/-- A frame that passes as an OFFER carries a tag (R15). -/
theorem formCheck_offer_tag {r : ReceiveSide} {f : AirFrame} (h : formCheck r = some f) (hk : f.kind = .offer) :
    f.tag ≠ 0 := by
  obtain ⟨k, -, -, hitems, rfl⟩ := (formCheck_eq_some_iff r f).1 h
  obtain rfl : k = .offer := hk
  simpa [formItems] using hitems

theorem adoptOffer_stationSound {f : AirFrame} (h : StationSound s) (ht : f.tag ≠ 0) :
    StationSound (adoptOffer f s) := by
  unfold adoptOffer
  split
  · exact joinGroup_stationSound ht _
  · exact h

theorem judgeFrame_stationSound (h : StationSound s) : StationSound (judgeFrame s) := by
  rcases judgeFrame_cases s with e | ⟨_, e⟩ | ⟨f, _, hf, ⟨_, hk, e⟩ | ⟨_, _, _, e⟩ | ⟨_, _, _, e⟩⟩ <;> rw [e]
  · exact h
  · exact h
  · exact adoptOffer_stationSound h (formCheck_offer_tag hf hk)
  · exact clashPath_stationSound f h
  · exact h.congr (by simp) (by simp)

/-! ## Channel access -/

/-- The frame that goes out leaves its position (R32). -/
theorem sendChosen_stationSound (h : StationSound s) : StationSound (sendChosen s) := by
  obtain ⟨hc, hq⟩ := (stationSound_iff s).1 h
  unfold sendChosen
  split
  · exact (stationSound_iff _).2 ⟨hc, hq.fewer (.inl rfl) (.inr rfl)⟩
  · exact (stationSound_iff _).2 ⟨hc, hq.fewer (.inr rfl) (.inl rfl)⟩
  · exact h

/-! ## Power-on -/

theorem powerOn_stationSound (s : State) : StationSound (powerOn s) := by
  simp [StationSound, powerOn, State.reset, StationControl.powerOn, Scheduler.powerOn, sends, offering, isVoice]

theorem loadTag_stationSound (tag : Tag) (h : StationSound s) : StationSound (loadTag tag s) := by
  unfold loadTag
  split
  · exact h
  · exact enterStarting_stationSound ‹_› s

end Moves

/-! ## Every event -/

theorem exec_stationSound (c : Instr) {s t : State} (he : exec c s = .next t) (h : StationSound s) :
    StationSound t := by
  have hf := exec_leavesAllBut c he
  cases c with
  | resetnLow => exact execResetnLow_cases he ▸ powerOn_stationSound s
  | startUpReadComplete smi =>
    obtain rfl | ⟨-, ht⟩ := execStartUpReadComplete_cases he
    · exact h
    · exact ht ▸ loadTag_stationSound _ (powerOn_stationSound s)
  | frameArrival =>
    obtain ⟨-, rfl⟩ | ⟨-, -, rfl⟩ | ⟨-, -, rfl⟩ := execFrameArrival_cases he
    · exact h
    · exact h
    · exact judgeFrame_stationSound h
  | gapExpiry =>
    obtain rfl | ⟨-, -, rfl⟩ := execGapExpiry_cases he
    · exact h
    · exact sendChosen_stationSound h
  | airTick =>
    obtain ⟨-, rfl⟩ | ⟨-, rfl⟩ := execAirTick_cases he
    · exact h
    · exact airTickInOrder_stationSound _ h
  | presenceCountExpiry =>
    obtain rfl | ⟨-, hd, rfl⟩ := execPresenceCountExpiry_cases he
    · exact h
    · obtain ⟨hs, -⟩ := (presenceDue_iff s).1 hd
      exact presenceExpiry_stationSound h hs
  | offerCountExpiry =>
    obtain rfl | ⟨-, hd, rfl⟩ := execOfferCountExpiry_cases he
    · exact h
    · exact offerExpiry_stationSound h (offering_of_offerDue hd)
  | listeningPeriodExpiry =>
    obtain rfl | ⟨-, hd, rfl⟩ := execListeningPeriodExpiry_cases he
    · exact h
    · obtain ⟨hs, -⟩ := (listeningDue_iff s).1 hd
      exact listeningExpiry_stationSound h (by simp [hs])
  | clashWaitExpiry =>
    obtain rfl | ⟨-, hd, rfl⟩ := execClashWaitExpiry_cases he
    · exact h
    · obtain ⟨hs, -⟩ := (clashWaitDue_iff s).1 hd
      exact clashWaitExpires_stationSound h (by simp [hs])
  | listenOnlyRetry =>
    obtain rfl | ⟨-, hd, rfl⟩ := execListenOnlyRetry_cases he
    · exact h
    · obtain ⟨hs, -⟩ := (retryDue_iff s).1 hd
      exact retryChoice_stationSound h hs
  | windowClose =>
    obtain rfl | ⟨-, -, rfl⟩ := execWindowClose_cases he
    · exact h
    · exact closePairing_stationSound h
  | blockEvent adi =>
    obtain ⟨-, rfl⟩ | ⟨-, rfl⟩ := execBlockEvent_cases he
    · exact h
    · exact blockEvent_stationSound adi h
  | startUp | receptionStart | blankedRxvFall | byteComplete | cbsyRise | cbsyFall | transmissionEnd | heardTimeout
  | stale | peerLost | queueLapse | driftWindowClose | computationComplete | frameMark | missedMark | tagWriteStart
  | writeTransactionEnd | writeTimeEnd | writeCompletion | portFrameEnd =>
    exact h.congr (hf.control (by simp [reaches])) (hf.scheduler (by simp [reaches]))


/-! # The timers of Station Control stay below their limits -/

section Timers

variable {s t : State}

theorem TimersSound.congr (h : TimersSound s) (hc : t.control = s.control) : TimersSound t := by
  simpa only [TimersSound, hc] using h

/-! ## The changes of self state start a timer from 0 or stop it -/

theorem enterActive_timersSound (n : Station) (h : TimersSound s) : TimersSound (enterActive n s) := by
  obtain ⟨-, -, -, hwindow⟩ := h
  simpa [TimersSound] using hwindow

theorem enterClashed_timersSound (h : TimersSound s) : TimersSound (enterClashed s) := by
  obtain ⟨hstart, -, hretry, hwindow⟩ := h
  simpa [TimersSound] using ⟨hstart, hretry, hwindow⟩

theorem enterListenOnly_timersSound (h : TimersSound s) : TimersSound (enterListenOnly s) := by
  obtain ⟨-, -, -, hwindow⟩ := h
  simpa [TimersSound] using hwindow

theorem enterStarting_timersSound (tag : Tag) (h : TimersSound s) : TimersSound (enterStarting tag s) := by
  obtain ⟨-, -, -, hwindow⟩ := h
  simpa [TimersSound] using hwindow

theorem joinGroup_timersSound (tag : Tag) (h : TimersSound s) : TimersSound (joinGroup tag s) :=
  enterStarting_timersSound tag h

theorem forget_timersSound (s : State) : TimersSound (forget s) := by simp [TimersSound, StationControl.powerOn]

theorem closePairing_timersSound (h : TimersSound s) : TimersSound (closePairing s) := by
  obtain ⟨hstart, hwait, hretry, -⟩ := h
  simpa [TimersSound] using ⟨hstart, hwait, hretry⟩

theorem openPairing_timersSound (h : TimersSound s) : TimersSound (openPairing s) := by
  obtain ⟨hstart, hwait, hretry, -⟩ := h
  have hopened : TimersSound { s with control := { s.control with window := some 0 } } :=
    ⟨hstart, hwait, hretry, by simp⟩
  unfold openPairing
  split
  · exact joinGroup_timersSound _ hopened
  · exact hopened

/-! ## The timers at an air tick -/

/-- A timer that does not fall due stays below its limit (R40, R43, R47, R49). -/
theorem timerTick_lt {limit : Nat} {t : Option Nat} (h : ¬ timerDue limit t = true) :
    ∀ n ∈ timerTick t, n < limit := by
  rw [timerDue_iff] at h
  intro n hn
  obtain ⟨m, hm, rfl⟩ : ∃ m ∈ t, m + 1 = n := by simpa [timerTick] using hn
  exact Nat.lt_of_not_le fun hl => h ⟨m, hm, hl⟩

theorem listeningExpiry_timersSound (h : TimersSound s) : TimersSound (listeningExpiry s) := by
  unfold listeningExpiry
  split
  · exact enterActive_timersSound _ h
  · exact enterListenOnly_timersSound h

theorem clashWaitExpires_timersSound (h : TimersSound s) : TimersSound (clashWaitExpires s) := by
  unfold clashWaitExpires
  split
  · exact enterActive_timersSound _ h
  · exact h

theorem retryChoice_timersSound (h : TimersSound s) : TimersSound (retryChoice s) := by
  unfold retryChoice
  split
  · rename_i n _
    exact (enterActive_timersSound n h).congr (by simp)
  · obtain ⟨hstart, hwait, -, hwindow⟩ := h
    exact ⟨hstart, hwait, by simp, hwindow⟩

theorem controlTick_timersSound (h : TimersSound s) : TimersSound (controlTick s) := by
  obtain ⟨hstart, hwait, hretry, hwindow⟩ := id h
  unfold controlTick
  split
  case h_1 hs =>
    split
    · exact listeningExpiry_timersSound h
    · rename_i hd
      rw [listeningDue_iff, not_and] at hd
      exact ⟨timerTick_lt (hd hs), hwait, hretry, hwindow⟩
  case h_2 hs =>
    split
    · exact clashWaitExpires_timersSound h
    · rename_i hd
      rw [clashWaitDue_iff, not_and] at hd
      exact ⟨hstart, timerTick_lt (hd hs), hretry, hwindow⟩
  case h_3 hs =>
    split
    · exact retryChoice_timersSound h
    · rename_i hd
      rw [retryDue_iff, not_and] at hd
      exact ⟨hstart, hwait, timerTick_lt (hd hs), hwindow⟩
  all_goals exact h

theorem windowTick_timersSound (h : TimersSound s) : TimersSound (windowTick s) := by
  unfold windowTick
  split
  · exact closePairing_timersSound h
  · rename_i hd
    obtain ⟨hstart, hwait, hretry, -⟩ := h
    exact ⟨hstart, hwait, hretry, timerTick_lt hd⟩

theorem airTickInOrder_timersSound (o : Bool) (h : TimersSound s) : TimersSound (airTickInOrder o s) := by
  have hs : TimersSound (offerTick (presenceTick (pacedTransmit s))) := h.congr (by simp)
  have htable : ∀ {u : State}, TimersSound u → TimersSound (tableTick u) := fun hu => hu.congr (by simp)
  have hstore : ∀ {u : State}, TimersSound u → TimersSound (storeTick u) := fun hu => hu.congr (by simp)
  refine hstore (windowTick_timersSound ?_)
  cases o with
  | true => exact htable (controlTick_timersSound hs)
  | false => exact controlTick_timersSound (htable hs)

/-! ## The block event, reception and power-on -/

theorem takeControl_timersSound (w : Option (BitVec 16)) (h : TimersSound s) : TimersSound (takeControl w s) :=
  takeControl_induction w h (fun _ hu => hu) (fun u _ => forget_timersSound u) (fun _ hu => openPairing_timersSound hu)
    fun _ _ hu => hu

theorem blockEvent_timersSound (adi : List Bool) (h : TimersSound s) : TimersSound (blockEvent adi s) :=
  (takeControl_timersSound (controlWord s.settings adi) h).congr (by simp [blockEvent])

theorem settleClash_timersSound (u : UnitId) (h : TimersSound s) : TimersSound (settleClash u s) := by
  unfold settleClash
  split
  · split
    · exact enterActive_timersSound _ h
    · exact h
  · split
    · split
      · exact enterActive_timersSound _ h
      · exact enterListenOnly_timersSound h
    · exact h

theorem clashPath_timersSound (f : AirFrame) (h : TimersSound s) : TimersSound (clashPath f s) := by
  unfold clashPath
  split
  case h_1 =>
    split
    · exact h
    · exact enterClashed_timersSound h
  case h_2 =>
    split
    · exact settleClash_timersSound _ h
    · exact h
  all_goals exact h

theorem adoptOffer_timersSound (f : AirFrame) (h : TimersSound s) : TimersSound (adoptOffer f s) := by
  unfold adoptOffer
  split
  · exact joinGroup_timersSound _ (closePairing_timersSound h)
  · exact h

theorem judgeFrame_timersSound (h : TimersSound s) : TimersSound (judgeFrame s) := by
  rcases judgeFrame_cases s with e | ⟨_, e⟩ | ⟨f, _, _, ⟨_, _, e⟩ | ⟨_, _, _, e⟩ | ⟨_, _, _, e⟩⟩ <;> rw [e]
  · exact h
  · exact h
  · exact adoptOffer_timersSound f h
  · exact clashPath_timersSound f h
  · exact h.congr (by simp)

theorem powerOn_timersSound (s : State) : TimersSound (powerOn s) := by
  simp [TimersSound, powerOn, StationControl.powerOn]

theorem loadTag_timersSound (tag : Tag) (h : TimersSound s) : TimersSound (loadTag tag s) := by
  unfold loadTag
  split
  · exact h
  · exact enterStarting_timersSound tag h

/-! ## Every event -/

theorem exec_timersSound (c : Instr) (he : exec c s = .next t) (h : TimersSound s) : TimersSound t := by
  have hf := exec_leavesAllBut c he
  cases c with
  | resetnLow => exact execResetnLow_cases he ▸ powerOn_timersSound s
  | startUpReadComplete smi =>
    obtain rfl | ⟨-, ht⟩ := execStartUpReadComplete_cases he
    · exact h
    · exact ht ▸ loadTag_timersSound _ (powerOn_timersSound s)
  | frameArrival =>
    obtain ⟨-, rfl⟩ | ⟨-, -, rfl⟩ | ⟨-, -, rfl⟩ := execFrameArrival_cases he
    · exact h
    · exact h
    · exact judgeFrame_timersSound h
  | airTick =>
    obtain ⟨-, rfl⟩ | ⟨-, rfl⟩ := execAirTick_cases he
    · exact h
    · exact airTickInOrder_timersSound _ h
  | listeningPeriodExpiry =>
    obtain rfl | ⟨-, -, rfl⟩ := execListeningPeriodExpiry_cases he
    · exact h
    · exact listeningExpiry_timersSound h
  | clashWaitExpiry =>
    obtain rfl | ⟨-, -, rfl⟩ := execClashWaitExpiry_cases he
    · exact h
    · exact clashWaitExpires_timersSound h
  | listenOnlyRetry =>
    obtain rfl | ⟨-, -, rfl⟩ := execListenOnlyRetry_cases he
    · exact h
    · exact retryChoice_timersSound h
  | windowClose =>
    obtain rfl | ⟨-, -, rfl⟩ := execWindowClose_cases he
    · exact h
    · exact closePairing_timersSound h
  | blockEvent adi =>
    obtain ⟨-, rfl⟩ | ⟨-, rfl⟩ := execBlockEvent_cases he
    · exact h
    · exact blockEvent_timersSound adi h
  | startUp | receptionStart | blankedRxvFall | byteComplete | presenceCountExpiry | offerCountExpiry | cbsyRise
  | cbsyFall | gapExpiry | transmissionEnd | heardTimeout | stale | peerLost | queueLapse | driftWindowClose
  | computationComplete | frameMark | missedMark
  | tagWriteStart | writeTransactionEnd | writeTimeEnd | writeCompletion | portFrameEnd =>
    exact h.congr (hf.control (by simp [reaches]))

end Timers

/-- Settles O55. -/
theorem stepKeepsStationSound : Obligations.StepKeepsStationSound := by
  intro s t he
  unfold step at he
  split at he
  · cases he
    exact ⟨id, id⟩
  · exact ⟨fun h => exec_stationSound _ he h, fun h => exec_timersSound _ he h⟩

end Sys2Proof.Machine

/-! # Channel access, announce counts and the changes of self state at their limits -/

namespace Sys2Proof.Machine

/-! ## The transmit side's moves as whole states (R31, R34) -/

/-- Placing a frame begins an access and does nothing else (R31). -/
theorem startAccess_eq (s : State) :
    startAccess s = { s with transmit := accessBegun s.cbsy s.control.number s.transmit } := by
  rw [← startAccess_begins]
  unfold startAccess
  split
  · rw [enterDefer_eq]
  all_goals rfl

/-- With nothing pending an access is abandoned, and nothing else changes (R31, R34). -/
theorem abandonIfEmpty_eq (s : State) :
    abandonIfEmpty s =
      { s with transmit := if framePending s = true then s.transmit else accessAbandoned s.transmit } := by
  have htransmit : (abandonIfEmpty s).transmit =
      if framePending s = true then s.transmit else accessAbandoned s.transmit := by
    split
    · exact abandonIfEmpty_keeps ‹_›
    · exact abandonIfEmpty_abandons (Bool.eq_false_iff.2 ‹_›)
  rw [← htransmit]
  unfold abandonIfEmpty
  split <;> rfl

theorem placePresence_eq (s : State) :
    placePresence s =
      { s with
        scheduler := { s.scheduler with announce := some .presence }
        transmit := accessBegun s.cbsy s.control.number s.transmit } := startAccess_eq _

/-- An OFFER gives way to a pending PRESENCE (R26). -/
theorem placeOffer_of_presence {s : State} (h : s.scheduler.announce = some .presence) : placeOffer s = s := by
  unfold placeOffer
  rw [h]

/-- Where no PRESENCE is pending an OFFER takes the position (R26). -/
theorem placeOffer_of_no_presence {s : State} (h : s.scheduler.announce ≠ some .presence) :
    placeOffer s =
      { s with
        scheduler := { s.scheduler with announce := some .offer }
        transmit := accessBegun s.cbsy s.control.number s.transmit } := by
  unfold placeOffer
  split
  · contradiction
  all_goals exact startAccess_eq _

/-- A pending OFFER goes, and an access that was its own alone (R29, R31). -/
theorem discardOffer_of_offer {s : State} (h : s.scheduler.announce = some .offer) :
    discardOffer s =
      { s with
        scheduler := { s.scheduler with announce := none }
        transmit := if s.scheduler.audio = none then accessAbandoned s.transmit else s.transmit } := by
  unfold discardOffer
  rw [h]
  simp only [abandonIfEmpty_eq, framePending, Option.isSome_none, Bool.or_false]
  cases s.scheduler.audio <;> rfl

theorem discardOffer_of_no_offer {s : State} (h : s.scheduler.announce ≠ some .offer) : discardOffer s = s := by
  unfold discardOffer
  split
  · contradiction
  all_goals rfl

/-! ## CBSY (R31) -/

/-- Settles O40. -/
theorem channelBusyMovesDeferAndGap : Obligations.ChannelBusyMovesDeferAndGap := by
  refine ⟨fun s h => ?_, fun s h => ?_, fun n s h hn => ?_, fun s h => ?_⟩
  · change execCbsyRise s = _
    rw [execCbsyRise, h]
  · change execCbsyRise s = _
    unfold execCbsyRise
    split
    · contradiction
    all_goals rfl
  · change execCbsyFall s = _
    simp [execCbsyFall, h, enterDefer_eq, hn, gapLength_eq]
  · change execCbsyFall s = _
    unfold execCbsyFall
    split
    · contradiction
    all_goals rfl

/-! ## The announce counts (R26 to R28) -/

theorem exec_presenceCountExpiry {s : State} (hp : s.phase = .running) (hd : presenceDue s = true) :
    exec .presenceCountExpiry s = .next (presenceExpiry s) := congrArg _ (if_pos ⟨hp, hd⟩)

theorem exec_offerCountExpiry {s : State} (hp : s.phase = .running) (hd : offerDue s = true) :
    exec .offerCountExpiry s = .next (offerExpiry s) := congrArg _ (if_pos ⟨hp, hd⟩)

/-- Settles O39. -/
theorem announceCountsPlaceTheirFrames : Obligations.AnnounceCountsPlaceTheirFrames := by
  intro n s hp hn
  refine ⟨fun hs hc => ?_, fun ha hw hc => ?_⟩
  · rw [exec_presenceCountExpiry hp ((presenceDue_iff s).2 ⟨(sends_iff _).2 hs, hc.ge⟩), presenceExpiry,
      placePresence_eq, hn]
  · rw [exec_offerCountExpiry hp ((offerDue_iff s).2 ⟨ha, hw, hc.ge⟩), offerExpiry]
    refine ⟨fun hpres => ?_, fun hpres => ?_⟩
    · exact congrArg _ (placeOffer_of_presence hpres)
    · rw [← hn]
      exact congrArg _ (placeOffer_of_no_presence hpres)

/-! ## The window's end (R49) -/

theorem exec_windowClose {s : State} (hp : s.phase = .running) (hd : windowDue s = true) :
    exec .windowClose s = .next (closePairing s) := congrArg _ (if_pos ⟨hp, hd⟩)

/-- Settles O34: by whether an OFFER is pending. -/
theorem windowClosesAtItsLimit : Obligations.WindowClosesAtItsLimit := by
  intro s hp hw
  rw [exec_windowClose hp (by simp [windowDue, timerDue, hw]), closePairing]
  refine ⟨fun ho => ?_, fun ho => ?_⟩
  · exact congrArg _ (discardOffer_of_offer ho)
  · exact congrArg _ (discardOffer_of_no_offer ho)

/-! ## The end of the listening period and the retries (R40 to R42, R47) -/

/-- An entry with its refused mark cleared (R70). -/
abbrev unrefused (p : Peer) : Peer := { p with entry := { p.entry with refused := false } }

theorem peerAt_clearRefused (s : State) (k : Station) : peerAt (clearRefused s) k = unrefused (peerAt s k) := by
  simp [clearRefused]

/-- The entry to LISTEN-ONLY clears the refused marks alone in the Peer Table (R47, R70). -/
theorem peerAt_enterListenOnly (s : State) (k : Station) :
    peerAt (enterListenOnly s) k = unrefused (peerAt s k) := by
  have h : (enterListenOnly s).peers = (clearRefused s).peers := by
    simp [enterListenOnly, clearRefused, mapPeers]
  rw [peerAt_congr h, peerAt_clearRefused]

theorem exec_listeningPeriodExpiry {s : State} (hp : s.phase = .running) (hs : s.control.selfState = .starting)
    (ht : s.control.startTimer = some 63) : exec .listeningPeriodExpiry s = .next (listeningExpiry s) :=
  congrArg _ (if_pos ⟨hp, by simp [listeningDue, timerDue, hs, ht]⟩)

theorem exec_listenOnlyRetry {s : State} (hp : s.phase = .running) (hs : s.control.selfState = .listenOnly)
    (ht : s.control.retryCount = some 255) : exec .listenOnlyRetry s = .next (retryChoice s) :=
  congrArg _ (if_pos ⟨hp, by simp [retryDue, timerDue, hs, ht]⟩)

theorem listeningExpiry_of_some {s : State} {m : Station} (h : numberChoice s = some m) :
    listeningExpiry s = enterActive m s := by
  rw [listeningExpiry, h]

theorem listeningExpiry_of_none {s : State} (h : numberChoice s = none) :
    listeningExpiry s = enterListenOnly s := by
  rw [listeningExpiry, h]

theorem retryChoice_of_some {s : State} {m : Station} (h : numberChoice s = some m) :
    retryChoice s = clearRefused (enterActive m s) := by
  rw [retryChoice, h]

theorem retryChoice_of_none {s : State} (h : numberChoice s = none) :
    retryChoice s = clearRefused { s with control := { s.control with retryCount := some 0 } } := by
  rw [retryChoice, h]

/-- Settles O32: by the state and by whether a number is chosen. -/
theorem listeningAndRetriesEndInANumberOrListenOnly : Obligations.ListeningAndRetriesEndInANumberOrListenOnly := by
  refine ⟨fun m s hp hs ht hm => ?_, fun s hp hs ht hm => ?_, fun m s hp hs ht hm => ?_, fun s hp hs ht hm => ?_⟩
  · rw [exec_listeningPeriodExpiry hp hs ht, listeningExpiry_of_some hm]
    exact ⟨_, rfl, by simp, by simp, enterActive_transmit m s, by simp, by simp, by simp, by simp⟩
  · rw [exec_listeningPeriodExpiry hp hs ht, listeningExpiry_of_none hm]
    exact ⟨_, rfl, by simp, by simp, enterListenOnly_transmit s, by simp [withFlag], peerAt_enterListenOnly s,
      by simp, by simp⟩
  · rw [exec_listenOnlyRetry hp hs ht, retryChoice_of_some hm]
    refine ⟨_, rfl, by simp, by simp, by simp [enterActive_transmit], by simp, fun k => ?_⟩
    rw [peerAt_clearRefused, peerAt_congr (s := s) (by simp)]
  · rw [exec_listenOnlyRetry hp hs ht, retryChoice_of_none hm]
    exact ⟨_, rfl, by simp, by simp, by simp, by simp, peerAt_clearRefused _⟩

/-! ## A clash settled by identifier (R44, R45) -/

theorem clashPath_of_clashed {f : AirFrame} {s : State} (h : s.control.selfState = .clashed) :
    clashPath f s = if f.kind = .presence then settleClash f.unitId s else s := by
  unfold clashPath
  rw [h]

/-- The own identifier settles nothing (R45). -/
theorem settleClash_own (s : State) : settleClash s.control.unitId s = s := by
  unfold settleClash
  simp

/-- Against a higher identifier the number is kept (R44). -/
theorem settleClash_of_higher {u : UnitId} {n : Station} {s : State} (hu : s.control.unitId.toNat < u.toNat)
    (hn : s.control.number = some n) : settleClash u s = enterActive n s := by
  rw [settleClash, if_pos (BitVec.lt_def.2 hu), hn]

/-- Against a lower identifier the station moves to the number chosen (R44). -/
theorem settleClash_moves {u : UnitId} {m : Station} {s : State} (hu : u.toNat < s.control.unitId.toNat)
    (hm : moveChoice s = some m) : settleClash u s = enterActive m s := by
  rw [settleClash, if_neg fun h => Nat.lt_asymm hu (BitVec.lt_def.1 h), if_pos (BitVec.lt_def.2 hu), hm]

/-- Against a lower identifier a station that finds no number falls to LISTEN-ONLY (R44). -/
theorem settleClash_falls {u : UnitId} {s : State} (hu : u.toNat < s.control.unitId.toNat)
    (hm : moveChoice s = none) : settleClash u s = enterListenOnly s := by
  rw [settleClash, if_neg fun h => Nat.lt_asymm hu (BitVec.lt_def.1 h), if_pos (BitVec.lt_def.2 hu), hm]

/-- A clash moves to the lowest FREE number that is not the current one (R44). -/
theorem moveChoice_eq_some_iff {n m : Station} {s : State} (hn : s.control.number = some n) :
    moveChoice s = some m ↔
      ((peerAt s m).entry.state = .free ∧ n ≠ m) ∧
        ∀ i : Station, i < m → ¬ ((peerAt s i).entry.state = .free ∧ n ≠ i) := by
  rw [moveChoice, ← Fin.find?_eq_find?_finRange, Fin.find?_eq_some_iff]
  simp [hn]

theorem moveChoice_eq_none_iff {n : Station} {s : State} (hn : s.control.number = some n) :
    moveChoice s = none ↔ ∀ i : Station, ¬ ((peerAt s i).entry.state = .free ∧ n ≠ i) := by
  rw [moveChoice, ← Fin.find?_eq_find?_finRange, Fin.find?_eq_none_iff]
  simp [hn]

/-- A frame that leaves the clash open ends its reception and does no more (R45). -/
theorem clashPath_of_unsettled {f : AirFrame} {s : State} (hs : s.control.selfState = .clashed)
    (h : f.kind ≠ .presence ∨ f.unitId = s.control.unitId) : clashPath f s = s := by
  rw [clashPath_of_clashed hs]
  split
  · rw [h.resolve_left (not_not.2 ‹_›), settleClash_own]
  · rfl

/-- Settles O30: by the identifiers and, for a lower one, by whether a number is FREE. -/
theorem presenceSettlesAClashByIdentifier : Obligations.PresenceSettlesAClashByIdentifier := by
  intro f n s h hs hn
  have hs' : (endReception s).control.selfState = .clashed := by simpa using hs
  have hn' : (endReception s).control.number = some n := by simpa using hn
  rw [frameArrival_clashes h]
  refine ⟨fun hopen => ?_, fun hk hu => ?_, fun hk hu => ?_⟩
  · rw [clashPath_of_unsettled hs' (by simpa using hopen)]
  · rw [clashPath_of_clashed hs', if_pos hk, settleClash_of_higher (by simpa using hu) hn']
    exact ⟨_, rfl, by simp [← hn], by simp, by simp [enterActive_transmit], by simp, by simp, by simp, by simp⟩
  · rw [clashPath_of_clashed hs', if_pos hk]
    have hu' : f.unitId.toNat < (endReception s).control.unitId.toNat := by simpa using hu
    refine ⟨fun m hne hfree hleast => ?_, fun hnone => ?_⟩
    · rw [settleClash_moves hu' ((moveChoice_eq_some_iff hn').2
        ⟨⟨hfree, hne.symm⟩, fun i hi ⟨hf, hin⟩ => hleast i hi hin.symm hf⟩)]
      exact ⟨_, rfl, by simp, by simp, by simp [enterActive_transmit], by simp, by simp, by simp, by simp⟩
    · rw [settleClash_falls hu' ((moveChoice_eq_none_iff hn').2 fun i ⟨hf, hin⟩ => hnone i hin.symm hf)]
      exact ⟨_, rfl, by simp, by simp [withFlag], by simp, by simp [enterListenOnly_transmit], by simp, by simp,
        peerAt_enterListenOnly _⟩

end Sys2Proof.Machine

/-! # The control word -/

namespace Sys2Proof.Machine

/-! ## FORGET and the creation of a tag in the blocks they reach (R50, R53) -/

/-- The Scheduler once both positions and both announce counts are emptied (R29). -/
def emptiedScheduler (q : Scheduler) : Scheduler :=
  { q with audio := none, announce := none, presenceCount := 0, offerCount := 0 }

theorem forget_scheduler (s : State) : (forget s).scheduler = emptiedScheduler s.scheduler := by
  simp only [forget, mapPeers_frame, emptyPositions_scheduler, zeroAnnounceCounts_scheduler, emptiedScheduler]
  split <;> simp

/-- A tag of 0 is in the store already (R53). -/
theorem forget_store (s : State) :
    (forget s).store =
      { s.store with writeQueue := if s.control.tag = 0 then s.store.writeQueue else some 0 } := by
  simp only [forget, mapPeers_frame, emptyPositions_frame, zeroAnnounceCounts_frame]
  split <;> simp

theorem joinGroup_scheduler (tag : Tag) (s : State) :
    (joinGroup tag s).scheduler = emptiedScheduler s.scheduler := by
  simp [joinGroup, emptiedScheduler]

/-- The tag created is the low half of the identifier, or 1 (R50). -/
theorem createdTag_toNat (u : UnitId) :
    (createdTag u).toNat = if u.toNat % 65536 = 0 then 1 else u.toNat % 65536 := by
  have hlow : (u.extractLsb' 0 16).toNat = u.toNat % 65536 := by simp [BitVec.extractLsb'_toNat]
  have hzero : u.extractLsb' 0 16 = 0 ↔ u.toNat % 65536 = 0 := by rw [BitVec.toNat_eq, hlow]; rfl
  simp only [createdTag, hzero]
  split
  · rfl
  · exact hlow

/-! ## The stages of a valid word (R54, R159 to R161) -/

/-- The state once CLEAR and then FORGET have acted (R54). -/
def beforePair (clears forgets : Bool) (s : State) : State :=
  let cleared := if clears then clearFlags s else s
  if forgets then forget cleared else cleared

/-- The window opens or its timer restarts (R49). -/
def windowOpened (s : State) : State := { s with control := { s.control with window := some 0 } }

/-- The word is held and sets the trim step (R137, R160). -/
def wordHeld (w : BitVec 16) (s : State) : State :=
  { s with lap := { s.lap with heldWord := w }, engine := { s.engine with trimStep := wordTrim w } }

/-- A rising PAIR acts after CLEAR and FORGET, and then the word is held. -/
theorem takeWord_eq (w : BitVec 16) (s : State) :
    takeWord w s = wordHeld w
      (if rises wordPair s.lap.heldWord w then
        openPairing (beforePair (rises wordClear s.lap.heldWord w) (rises wordForget s.lap.heldWord w) s)
      else beforePair (rises wordClear s.lap.heldWord w) (rises wordForget s.lap.heldWord w) s) := rfl

theorem takeControl_of_invalid {w : BitVec 16} (h : wordValid w = false) (s : State) :
    takeControl (some w) s = s := by
  simp [takeControl, h]

theorem takeControl_of_valid {w : BitVec 16} (h : wordValid w = true) (s : State) :
    takeControl (some w) s = takeWord w s := by
  simp [takeControl, h]

/-- PAIR opens the window, and a tag is created in an UNPAIRED GATEWAY alone (R49, R50). -/
theorem openPairing_eq (s : State) :
    openPairing s =
      if s.control.selfState = .unpaired ∧ s.settings.role = .gateway then
        joinGroup (createdTag s.control.unitId) (windowOpened s)
      else windowOpened s := by
  unfold openPairing
  split
  case h_1 hs hg => rw [if_pos ⟨hs, hg⟩]; rfl
  case h_2 hn => rw [if_neg fun ⟨hs, hg⟩ => hn hs hg]; rfl

section Stages

variable (clears forgets : Bool) (s : State)

@[simp] theorem beforePair_frame :
    (beforePair clears forgets s).settings = s.settings ∧ (beforePair clears forgets s).receive = s.receive ∧
    (beforePair clears forgets s).sidetone = s.sidetone ∧ (beforePair clears forgets s).engine = s.engine ∧
    (beforePair clears forgets s).lap = s.lap ∧ (beforePair clears forgets s).scanIndex = s.scanIndex := by
  cases clears <;> cases forgets <;> simp [beforePair]

theorem beforePair_flags : (beforePair clears forgets s).flags = if clears then Flags.clear else s.flags := by
  cases clears <;> cases forgets <;> simp [beforePair]

theorem beforePair_control :
    (beforePair clears forgets s).control =
      if forgets then StationControl.powerOn s.control.unitId else s.control := by
  cases clears <;> cases forgets <;> simp [beforePair]

theorem beforePair_scheduler :
    (beforePair clears forgets s).scheduler = if forgets then emptiedScheduler s.scheduler else s.scheduler := by
  cases clears <;> cases forgets <;> simp [beforePair, forget_scheduler]

theorem beforePair_transmit :
    (beforePair clears forgets s).transmit = if forgets then accessAbandoned s.transmit else s.transmit := by
  cases clears <;> cases forgets <;> simp [beforePair, forget_transmit]

theorem beforePair_store :
    (beforePair clears forgets s).store =
      if forgets then { s.store with writeQueue := if s.control.tag = 0 then s.store.writeQueue else some 0 }
      else s.store := by
  cases clears <;> cases forgets <;> simp [beforePair, forget_store]

theorem peerAt_beforePair (k : Station) :
    peerAt (beforePair clears forgets s) k = if forgets then forgetPeer (peerAt s k) else peerAt s k := by
  have hcleared : peerAt (clearFlags s) k = peerAt s k := peerAt_congr (by simp) k
  cases clears <;> cases forgets <;> simp [beforePair, hcleared]

end Stages

/-! ## What a valid word does, by the fields that rise -/

/-- What a valid word does: CLEAR, FORGET, then the window, with a tag where one is created; and then it is
held. -/
def wordActs (clears forgets pairs creates : Bool) (w : BitVec 16) (s : State) : State :=
  wordHeld w
    (if creates then joinGroup (createdTag s.control.unitId) (windowOpened (beforePair clears forgets s))
    else if pairs then windowOpened (beforePair clears forgets s)
    else beforePair clears forgets s)

/-- A station is UNPAIRED once FORGET has acted, so that an UNPAIRED GATEWAY is one that was, or has been made
so by the same word (R50, R54). -/
theorem takeWord_acts (w : BitVec 16) (s : State) :
    takeWord w s =
      wordActs (rises wordClear s.lap.heldWord w) (rises wordForget s.lap.heldWord w)
        (rises wordPair s.lap.heldWord w)
        (rises wordPair s.lap.heldWord w &&
          (rises wordForget s.lap.heldWord w || s.control.selfState == .unpaired) && s.settings.role == .gateway)
        w s := by
  rw [takeWord_eq, wordActs, openPairing_eq]
  generalize rises wordClear s.lap.heldWord w = clears
  generalize rises wordForget s.lap.heldWord w = forgets
  cases rises wordPair s.lap.heldWord w with
  | false => rfl
  | true => cases forgets <;> simp [beforePair_control, StationControl.powerOn]

section Acts

variable (clears forgets pairs creates : Bool) (w : BitVec 16) (s : State)

@[simp] theorem wordActs_frame :
    (wordActs clears forgets pairs creates w s).receive = s.receive ∧
    (wordActs clears forgets pairs creates w s).sidetone = s.sidetone ∧
    (wordActs clears forgets pairs creates w s).scanIndex = s.scanIndex := by
  cases creates <;> cases pairs <;> simp [wordActs, wordHeld, windowOpened]

theorem wordActs_lap : (wordActs clears forgets pairs creates w s).lap = { s.lap with heldWord := w } := by
  cases creates <;> cases pairs <;> simp [wordActs, wordHeld, windowOpened]

theorem wordActs_engine :
    (wordActs clears forgets pairs creates w s).engine = { s.engine with trimStep := wordTrim w } := by
  cases creates <;> cases pairs <;> simp [wordActs, wordHeld, windowOpened]

/-- PAIRED is set where a tag is created, after CLEAR (R50, R169). -/
theorem wordActs_flags :
    (wordActs clears forgets pairs creates w s).flags =
      { (if clears then Flags.clear else s.flags) with paired := creates || (!clears && s.flags.paired) } := by
  cases creates <;> cases pairs <;> cases clears <;>
    simp [wordActs, wordHeld, windowOpened, beforePair_flags, withFlag, Flags.clear]

theorem wordActs_scheduler :
    (wordActs clears forgets pairs creates w s).scheduler =
      if forgets || creates then emptiedScheduler s.scheduler else s.scheduler := by
  cases creates <;> cases pairs <;> cases forgets <;>
    simp [wordActs, wordHeld, windowOpened, beforePair_scheduler, joinGroup_scheduler, emptiedScheduler]

theorem wordActs_transmit :
    (wordActs clears forgets pairs creates w s).transmit =
      if forgets || creates then accessAbandoned s.transmit else s.transmit := by
  cases creates <;> cases pairs <;> cases forgets <;>
    simp [wordActs, wordHeld, windowOpened, beforePair_transmit, joinGroup_transmit]

theorem wordActs_control :
    (wordActs clears forgets pairs creates w s).control =
      let c := if forgets then StationControl.powerOn s.control.unitId else s.control
      if creates then
        { c with
          selfState := .starting, number := none, tag := createdTag s.control.unitId, window := some 0
          startTimer := some 0, clashWait := none, retryCount := none }
      else { c with window := if pairs then some 0 else c.window } := by
  cases creates <;> cases pairs <;> simp [wordActs, wordHeld, windowOpened, beforePair_control]

theorem wordActs_store :
    (wordActs clears forgets pairs creates w s).store =
      if creates then { s.store with writeQueue := some (createdTag s.control.unitId) }
      else if forgets then { s.store with writeQueue := if s.control.tag = 0 then s.store.writeQueue else some 0 }
      else s.store := by
  cases creates <;> cases pairs <;> cases forgets <;> simp [wordActs, wordHeld, windowOpened, beforePair_store]

theorem wordActs_peers (k : Station) :
    peerAt (wordActs clears forgets pairs creates w s) k =
      if forgets then forgetPeer (peerAt s k) else peerAt s k := by
  rw [← peerAt_beforePair clears]
  exact peerAt_congr (by cases creates <;> cases pairs <;> simp [wordActs, wordHeld, windowOpened]) k

end Acts

theorem peers_ext {s t : State} (h : ∀ k : Station, peerAt t k = peerAt s k) : t.peers = s.peers :=
  Vector.ext fun i hi => h ⟨i, hi⟩

/-- Settles O44: by the fields that rise. -/
theorem controlWordActsByItsFields : Obligations.ControlWordActsByItsFields := by
  intro w s held t clears forgets pairs creates
  refine ⟨rfl, fun hv => ?_, fun hv => ?_⟩
  · exact takeControl_of_invalid (by simpa [wordValid] using hv) s
  · have ht : t = wordActs clears forgets pairs creates w s :=
      (takeControl_of_valid ((wordValid_iff w).2 hv) s).trans (takeWord_acts w s)
    have hpairs : creates = true → pairs = true := fun h => by
      simp only [creates, Bool.and_eq_true] at h
      obtain ⟨⟨hp, -⟩, -⟩ := h
      exact hp
    clear_value t creates clears forgets pairs
    subst ht
    simp only [wordActs_lap, wordActs_engine, wordActs_flags, wordActs_scheduler, wordActs_transmit,
      wordActs_control, wordActs_store, wordActs_peers, wordActs_frame]
    refine ⟨trivial, rfl, fun hc hf hp => ?_, trivial, ?_, ?_, trivial, trivial, trivial, fun hf => ?_, fun h => ?_,
      fun hf hc => ?_, fun hc => ?_, fun hf => ?_, fun hf hc => ?_⟩
    · obtain rfl : creates = false := by simpa [hp] using hpairs
      rw [hc, hf, hp]
      rfl
    · split <;> rfl
    · split <;> rfl
    · subst hf
      exact ⟨fun k => ⟨rfl, rfl, rfl, rfl, rfl, rfl, rfl⟩, by cases creates <;> rfl⟩
    · have : (forgets || creates) = true := by simpa using h
      simp [this, emptiedScheduler]
    · simp [hf, hc, StationControl.powerOn]
    · simp [hc, createdTag_toNat]
    · exact peers_ext fun k => by simp [wordActs_peers, hf]
    · simp [hf, hc]

end Sys2Proof.Machine

/-! # The capture counter, the held word and the hand-over -/

namespace Sys2Proof.Machine

/-! ## What leaves the counter and the held block -/

/-- The control word leaves the counter and the held block (R53, R159). -/
@[simp] theorem takeControl_capture (w : Option (BitVec 16)) (s : State) :
    (takeControl w s).scheduler.sequence = s.scheduler.sequence ∧
    (takeControl w s).scheduler.held = s.scheduler.held := by
  refine takeControl_induction
    (P := fun u => u.scheduler.sequence = s.scheduler.sequence ∧ u.scheduler.held = s.scheduler.held)
    w ⟨rfl, rfl⟩ (fun u hu => hu) (fun u hu => ?_) (fun u hu => ?_) (fun _ _ hu => hu)
  · rwa [forget_scheduler]
  · rw [openPairing_eq]
    split
    · rwa [joinGroup_scheduler]
    · exact hu

@[simp] theorem placeOffer_capture (s : State) :
    (placeOffer s).scheduler.sequence = s.scheduler.sequence ∧
    (placeOffer s).scheduler.held = s.scheduler.held ∧
    (placeOffer s).scheduler.audio = s.scheduler.audio := by
  simp [placeOffer_scheduler]

@[simp] theorem presenceTick_capture (s : State) :
    (presenceTick s).scheduler.sequence = s.scheduler.sequence ∧
    (presenceTick s).scheduler.held = s.scheduler.held ∧
    (presenceTick s).scheduler.audio = s.scheduler.audio := by
  unfold presenceTick
  split
  · simp [presenceExpiry]
  · split <;> simp

@[simp] theorem offerTick_capture (s : State) :
    (offerTick s).scheduler.sequence = s.scheduler.sequence ∧
    (offerTick s).scheduler.held = s.scheduler.held ∧
    (offerTick s).scheduler.audio = s.scheduler.audio := by
  unfold offerTick
  split
  · simp [offerExpiry]
  · split <;> simp

@[simp] theorem closePairing_capture (s : State) :
    (closePairing s).scheduler.sequence = s.scheduler.sequence ∧
    (closePairing s).scheduler.held = s.scheduler.held ∧
    (closePairing s).scheduler.audio = s.scheduler.audio := by
  simp [closePairing_scheduler]

@[simp] theorem windowTick_capture (s : State) :
    (windowTick s).scheduler.sequence = s.scheduler.sequence ∧
    (windowTick s).scheduler.held = s.scheduler.held ∧
    (windowTick s).scheduler.audio = s.scheduler.audio := by
  unfold windowTick
  split <;> simp

@[simp] theorem listeningExpiry_capture (s : State) :
    (listeningExpiry s).scheduler.sequence = s.scheduler.sequence ∧
    (listeningExpiry s).scheduler.held = s.scheduler.held := by
  unfold listeningExpiry
  split <;> simp

@[simp] theorem clashWaitExpires_capture (s : State) :
    (clashWaitExpires s).scheduler.sequence = s.scheduler.sequence ∧
    (clashWaitExpires s).scheduler.held = s.scheduler.held ∧
    (clashWaitExpires s).scheduler.audio = s.scheduler.audio := by
  unfold clashWaitExpires
  split <;> simp

@[simp] theorem retryChoice_capture (s : State) :
    (retryChoice s).scheduler.sequence = s.scheduler.sequence ∧
    (retryChoice s).scheduler.held = s.scheduler.held ∧
    (retryChoice s).scheduler.audio = s.scheduler.audio := by
  unfold retryChoice
  split <;> simp

@[simp] theorem controlTick_capture (s : State) :
    (controlTick s).scheduler.sequence = s.scheduler.sequence ∧
    (controlTick s).scheduler.held = s.scheduler.held := by
  unfold controlTick
  split
  case h_4 | h_5 => exact ⟨rfl, rfl⟩
  all_goals split <;> simp

/-- A transmit event of an air tick takes the held block and leaves the counter and the announcements (R20, R22). -/
@[simp] theorem pacedTransmit_announce (s : State) :
    (pacedTransmit s).scheduler.sequence = s.scheduler.sequence ∧
    (pacedTransmit s).scheduler.announce = s.scheduler.announce ∧
    (pacedTransmit s).scheduler.presenceCount = s.scheduler.presenceCount ∧
    (pacedTransmit s).scheduler.offerCount = s.scheduler.offerCount := by
  obtain e | ⟨f, u, -, -, hu, e⟩ := pacedTransmit_cases s
  · simp [e]
  · rcases hu with rfl | rfl | rfl <;> simp [e, dropHeld]

@[simp] theorem airTick_sequence (s : State) : (airTick s).scheduler.sequence = s.scheduler.sequence := by
  unfold airTick airTickInOrder
  simp only []
  split <;> simp

@[simp] theorem settleClash_sequence (u : UnitId) (s : State) :
    (settleClash u s).scheduler.sequence = s.scheduler.sequence := by
  unfold settleClash
  split
  · split <;> simp
  · split
    · split <;> simp
    · rfl

@[simp] theorem clashPath_sequence (f : AirFrame) (s : State) :
    (clashPath f s).scheduler.sequence = s.scheduler.sequence := by
  unfold clashPath
  split
  case h_1 | h_2 => split <;> simp
  all_goals rfl

@[simp] theorem adoptOffer_sequence (f : AirFrame) (s : State) :
    (adoptOffer f s).scheduler.sequence = s.scheduler.sequence := by
  unfold adoptOffer
  split
  · simp [joinGroup_scheduler, emptiedScheduler]
  · rfl

@[simp] theorem judgeFrame_sequence (s : State) : (judgeFrame s).scheduler.sequence = s.scheduler.sequence := by
  rcases judgeFrame_cases s with e | ⟨_, e⟩ | ⟨f, _, _, ⟨_, _, e⟩ | ⟨_, _, _, e⟩ | ⟨_, _, _, e⟩⟩ <;> rw [e] <;> simp

@[simp] theorem sendChosen_sequence (s : State) : (sendChosen s).scheduler.sequence = s.scheduler.sequence := by
  unfold sendChosen
  split <;> simp

/-! ## The hand-over of a block (R20, R21, R23, R30) -/

/-- The counter advanced by one block (R20). -/
def countedOn (s : State) : State :=
  { s with scheduler := { s.scheduler with sequence := s.scheduler.sequence + 1 } }

@[simp] theorem countedOn_frame (s : State) :
    (countedOn s).control = s.control ∧ (countedOn s).scheduler.audio = s.scheduler.audio ∧
    (countedOn s).scheduler.sequence = s.scheduler.sequence + 1 ∧ muted (countedOn s) = muted s :=
  ⟨rfl, rfl, rfl, rfl⟩

/-- The block completed, under the number that the counter takes (R20). -/
def numberedBlock (b : Block) (s : State) : HeldBlock := { seq := s.scheduler.sequence + 1, samples := b }

theorem captureHandover_of_paced {s : State} (h : s.settings.cadence = .paced) (b : Block) :
    captureHandover b s = holdBlock (numberedBlock b s) (countedOn s) := by
  unfold captureHandover
  rw [h]
  rfl

theorem captureHandover_of_onData {s : State} (h : s.settings.cadence = .onData) (b : Block) :
    captureHandover b s = onDataTransmit (numberedBlock b s) (countedOn s) := by
  unfold captureHandover
  rw [h]
  rfl

/-- The block completed is held, or none is while muted (R21). -/
theorem holdBlock_scheduler (b : HeldBlock) (s : State) :
    (holdBlock b s).scheduler = { s.scheduler with held := if muted s then none else some b } := by
  unfold holdBlock
  cases muted s <;> simp [dropHeld]

/-- A block dropped for the next in a state that sends sets SUPERSEDED (R21). -/
theorem holdBlock_superseded (b : HeldBlock) (s : State) :
    (holdBlock b s).flags.superseded =
      (s.flags.superseded || (!muted s && s.scheduler.held.isSome && sends s.control.selfState)) := by
  unfold holdBlock
  cases muted s with
  | true => simp
  | false => cases hd : s.scheduler.held.isSome && sends s.control.selfState <;> simp [setFlagIf_flags, withFlag, hd]

/-- The frame of a block event in ON-DATA cadence, in a state that sends (R23, R30). -/
def onDataFrame (b : HeldBlock) (s : State) : AudioFrame :=
  if muted s then holdOf s .muted else if s.control.selfState = .active then voiceOf b else holdOf s .underrun

/-- In ON-DATA cadence a station that sends places a frame at each block event, and no other does (R23, R29). -/
theorem onDataTransmit_eq (b : HeldBlock) (s : State) :
    onDataTransmit b s = if sends s.control.selfState then placeAudio (onDataFrame b s) s else s := by
  unfold onDataTransmit onDataFrame
  cases s.control.selfState <;> cases muted s <;> rfl

/-- The counter advances at each hand-over (R20). -/
theorem captureHandover_sequence (b : Block) (s : State) :
    (captureHandover b s).scheduler.sequence = s.scheduler.sequence + 1 := by
  cases h : s.settings.cadence with
  | paced => rw [captureHandover_of_paced h, holdBlock_scheduler]; rfl
  | onData =>
    rw [captureHandover_of_onData h, onDataTransmit_eq]
    split <;> simp

/-! ## The block event around the hand-over (R157) -/

theorem exec_blockEvent {s : State} (h : BlockEnds s) (adi : List Bool) :
    exec (.blockEvent adi) s = .next (blockEvent adi s) := if_pos h

@[simp] theorem mixAndReport_heldWord (b : Block) (s : State) :
    (mixAndReport b s).lap.heldWord = s.lap.heldWord := by
  simp [mixAndReport]

/-- The takes set PEER_LAPSE at most (R91). -/
@[simp] theorem mixAndReport_superseded (b : Block) (s : State) :
    (mixAndReport b s).flags.superseded = s.flags.superseded := by
  cases h : anyLapse s <;> simp [mixAndReport, afterTakes, setFlagIf_flags, withFlag, h]

theorem blockEvent_sequence (adi : List Bool) (s : State) :
    (blockEvent adi s).scheduler.sequence = s.scheduler.sequence + 1 := by
  simp [blockEvent, captureHandover_sequence]

theorem blockEvent_heldWord (adi : List Bool) (s : State) :
    (blockEvent adi s).lap.heldWord = (takeControl (controlWord s.settings adi) s).lap.heldWord := by
  simp [blockEvent]

/-- A valid word becomes the held word, and no other does (R159, R160). -/
theorem takeControl_heldWord (w : Option (BitVec 16)) (s : State) :
    (takeControl w s).lap.heldWord = ((w.filter wordValid).getD s.lap.heldWord) := by
  cases w with
  | none => rfl
  | some w =>
    cases hv : wordValid w with
    | false => simp [takeControl_of_invalid hv, Option.filter, hv]
    | true => simp [takeControl_of_valid hv, takeWord_acts, wordActs_lap, Option.filter, hv]

/-! ## The counter and the held word at every event -/

/-- The counter stands at every event but a block event and a power-on (R20). -/
theorem exec_sequence {c : Instr} {s t : State} (he : exec c s = .next t) (hp : ¬ PowersOn c)
    (hb : ¬ ∃ adi : List Bool, BlockEventWith adi c s) : t.scheduler.sequence = s.scheduler.sequence := by
  have hf := exec_leavesAllBut c he
  cases c with
  | resetnLow => exact absurd (.inl rfl) hp
  | startUpReadComplete smi => exact absurd (.inr ⟨smi, rfl⟩) hp
  | frameArrival =>
    obtain ⟨-, rfl⟩ | ⟨-, -, rfl⟩ | ⟨-, -, rfl⟩ := execFrameArrival_cases he <;> simp
  | airTick =>
    obtain ⟨-, rfl⟩ | ⟨-, rfl⟩ := execAirTick_cases he <;> simp
  | presenceCountExpiry =>
    obtain rfl | ⟨-, -, rfl⟩ := execPresenceCountExpiry_cases he <;> simp [presenceExpiry]
  | offerCountExpiry =>
    obtain rfl | ⟨-, -, rfl⟩ := execOfferCountExpiry_cases he <;> simp [offerExpiry]
  | listeningPeriodExpiry =>
    obtain rfl | ⟨-, -, rfl⟩ := execListeningPeriodExpiry_cases he <;> simp
  | clashWaitExpiry =>
    obtain rfl | ⟨-, -, rfl⟩ := execClashWaitExpiry_cases he <;> simp
  | listenOnlyRetry =>
    obtain rfl | ⟨-, -, rfl⟩ := execListenOnlyRetry_cases he <;> simp
  | windowClose =>
    obtain rfl | ⟨-, -, rfl⟩ := execWindowClose_cases he <;> simp
  | gapExpiry =>
    obtain rfl | ⟨-, -, rfl⟩ := execGapExpiry_cases he <;> simp
  | blockEvent adi =>
    obtain ⟨-, rfl⟩ | ⟨hends, -⟩ := execBlockEvent_cases he
    · rfl
    · exact absurd ⟨adi, rfl, hends⟩ hb
  | startUp | receptionStart | blankedRxvFall | byteComplete | cbsyRise | cbsyFall | transmissionEnd | heardTimeout
  | stale | peerLost | queueLapse | driftWindowClose | computationComplete | frameMark | missedMark | tagWriteStart
  | writeTransactionEnd | writeTimeEnd | writeCompletion | portFrameEnd =>
    rw [hf.scheduler (by simp [reaches])]

@[simp] theorem loseLock_heldWord (m : Nat) (s : State) : (loseLock m s).lap.heldWord = s.lap.heldWord := by
  simp [loseLock, unlockedLap]

/-- A regain of lock keeps the held word (R162). -/
@[simp] theorem markUnlocked_heldWord (n : Nat) (s : State) :
    (markUnlocked n s).lap.heldWord = s.lap.heldWord := by
  unfold markUnlocked
  split
  · rfl
  · split
    · split
      · simp [lockPort, lockedLap]
      · rfl
    · rfl

/-- The held word stands at every event but a block event that takes a valid word, and a power-on (R162). -/
theorem exec_heldWord {c : Instr} {s t : State} (he : exec c s = .next t) (hp : ¬ PowersOn c)
    (hw : ¬ ∃ w : BitVec 16, TakesWord w c s) : t.lap.heldWord = s.lap.heldWord := by
  have hf := exec_leavesAllBut c he
  cases c with
  | resetnLow => exact absurd (.inl rfl) hp
  | startUpReadComplete smi => exact absurd (.inr ⟨smi, rfl⟩) hp
  | blockEvent adi =>
    obtain ⟨-, rfl⟩ | ⟨hends, rfl⟩ := execBlockEvent_cases he
    · rfl
    · rw [blockEvent_heldWord, takeControl_heldWord]
      cases hword : controlWord s.settings adi with
      | none => rfl
      | some w =>
        have hv : ¬ wordValid w = true := fun hv => hw ⟨w, adi, ⟨rfl, hends⟩, hword, hv⟩
        simp [Option.filter, hv]
  | frameMark n =>
    obtain rfl | ⟨-, -, rfl⟩ | ⟨-, -, rfl⟩ := execFrameMark_cases he
    · rfl
    · simp
    · unfold markLocked
      split <;> simp
  | missedMark =>
    obtain rfl | ⟨-, -, rfl⟩ | ⟨-, -, rfl⟩ := execMissedMark_cases he <;> simp
  | portFrameEnd adi =>
    obtain rfl | ⟨-, -, rfl⟩ := execPortFrameEnd_cases he <;> rfl
  | startUp | receptionStart | blankedRxvFall | byteComplete | frameArrival | airTick | presenceCountExpiry
  | offerCountExpiry | listeningPeriodExpiry | clashWaitExpiry | listenOnlyRetry | windowClose | heardTimeout | stale
  | peerLost | cbsyRise | cbsyFall | gapExpiry | transmissionEnd | queueLapse | driftWindowClose
  | computationComplete | tagWriteStart | writeTransactionEnd | writeTimeEnd | writeCompletion =>
    rw [hf.lap (by simp [reaches])]

/-- Settles O6. -/
theorem counterAndHeldWordMoveAtBlockEventsOnly : Obligations.CounterAndHeldWordMoveAtBlockEventsOnly := by
  intro c s t he hp
  refine ⟨?_, exec_sequence he hp, ?_, exec_heldWord he hp⟩
  · rintro ⟨adi, rfl, hends⟩
    obtain rfl := Host.Outcome.next.inj ((exec_blockEvent hends adi).symm.trans he)
    exact blockEvent_sequence adi s
  · rintro w ⟨adi, ⟨rfl, hends⟩, hword, hv⟩
    obtain rfl := Host.Outcome.next.inj ((exec_blockEvent hends adi).symm.trans he)
    rw [blockEvent_heldWord, hword, takeControl_heldWord]
    simp [Option.filter, hv]

/-! ## The capture block (R148, R149, R151) -/

theorem captureBlock_getElem (assembly : List Sample) (last : Sample) (i : Fin 64) :
    (captureBlock assembly last)[i] = (assembly ++ [last]).getD i.val 0 := by simp [captureBlock]

/-- Of 63 samples in assembly, sample i of the block is the one assembled in port frame i (R151). -/
theorem captureBlock_assembled {assembly : List Sample} (h : assembly.length = 63) (last : Sample) {i : Fin 64}
    (hi : i.val < 63) : assembly[i.val]? = some (captureBlock assembly last)[i] := by
  rw [captureBlock_getElem]
  simp [h, hi]

theorem captureBlock_last {assembly : List Sample} (h : assembly.length = 63) (last : Sample) :
    (captureBlock assembly last)[63] = last := by
  refine (captureBlock_getElem assembly last 63).trans ?_
  simp [h]

/-- The sample of a port frame has the first 16 bits of the capture slot, where the frame has that slot (R149). -/
theorem captureSample_getLsbD {g : Settings} (h : g.captureSlot.val < g.slotCount) (adi : List Bool) {i : Nat}
    (hi : i < 16) :
    (captureSample g adi).getLsbD (15 - i) = adi.getD (g.captureSlot.val * g.slotWidth + i) false := by
  rw [captureSample, if_pos (by simpa [slotExists] using h), slotWord, wordAt_getLsbD _ _ hi]

theorem captureSample_of_no_slot {g : Settings} (h : g.slotCount ≤ g.captureSlot.val) (adi : List Bool) :
    captureSample g adi = 0 := by
  rw [captureSample, if_neg (by simpa [slotExists] using h)]

/-! ## The block event hands the block over -/

/-- In ON-DATA cadence the frame starts an access, by R31, in a state that sends (R25). -/
theorem onDataTransmit_transmit (b : HeldBlock) (s : State) :
    (onDataTransmit b s).transmit =
      if sends s.control.selfState then accessBegun s.cbsy s.control.number s.transmit else s.transmit := by
  rw [onDataTransmit_eq]
  split
  · exact placeAudio_transmit _ s
  · rfl

theorem onDataTransmit_scheduler (b : HeldBlock) (s : State) :
    (onDataTransmit b s).scheduler =
      if sends s.control.selfState then { s.scheduler with audio := some (onDataFrame b s) } else s.scheduler := by
  rw [onDataTransmit_eq]
  split
  · exact placeAudio_scheduler _ s
  · rfl

/-- A VOICE that is replaced sets SUPERSEDED (R25). -/
theorem placeAudio_superseded (f : AudioFrame) (s : State) :
    (placeAudio f s).flags.superseded = (s.flags.superseded || isVoice s.scheduler.audio) := by
  rw [placeAudio_flags]
  split <;> simp [withFlag, *]

theorem onDataTransmit_superseded (b : HeldBlock) (s : State) :
    (onDataTransmit b s).flags.superseded =
      (s.flags.superseded || (sends s.control.selfState && isVoice s.scheduler.audio)) := by
  rw [onDataTransmit_eq]
  split
  · rw [placeAudio_superseded]
    simp [*]
  · simp [*]

/-- The hand-over's part of a block event: what the takes and the mix leave of it. -/
theorem blockEvent_handover (adi : List Bool) (s : State) :
    let handed := captureHandover (completedCapture adi s) (takeControl (controlWord s.settings adi) s)
    (blockEvent adi s).scheduler = handed.scheduler ∧ (blockEvent adi s).transmit = handed.transmit ∧
    (blockEvent adi s).flags.superseded = handed.flags.superseded := by
  simp [blockEvent]

/-- Settles O45: by the cadence. -/
theorem blockEventHandsOverTheCaptureBlock : Obligations.BlockEventHandsOverTheCaptureBlock := by
  intro adi s hl hf c mute seq block
  obtain ⟨hscheduler, htransmit, hsuperseded⟩ := blockEvent_handover adi s
  have hcadence : c.settings.cadence = s.settings.cadence := by simp [c]
  have hcbsy : c.cbsy = s.cbsy := by simp [c]
  have hseq : c.scheduler.sequence + 1 = seq := by simp [c, seq]
  refine ⟨_, exec_blockEvent ⟨hl, hf⟩ adi, blockEvent_sequence adi s,
    fun h i hi => captureBlock_assembled h _ hi, fun h => ⟨fun hslot i hi => ?_, fun hslot => ?_⟩, ?_, fun hpaced => ?_,
    fun hdata => ?_⟩
  · exact (congrArg (BitVec.getLsbD · (15 - i)) (captureBlock_last h _)).trans (captureSample_getLsbD hslot adi hi)
  · exact (captureBlock_last h _).trans (captureSample_of_no_slot hslot adi)
  · rw [htransmit]
    change (captureHandover block c).transmit = _
    cases hs : s.settings.cadence with
    | paced =>
      rw [captureHandover_of_paced (hcadence.trans hs)]
      simp [countedOn]
    | onData =>
      rw [captureHandover_of_onData (hcadence.trans hs), onDataTransmit_transmit]
      simp [countedOn, hcbsy]
  · rw [hscheduler, hsuperseded]
    change (captureHandover block c).scheduler.held = _ ∧ (captureHandover block c).scheduler.audio = _ ∧
      (captureHandover block c).flags.superseded = _
    rw [captureHandover_of_paced (hcadence.trans hpaced), holdBlock_scheduler, holdBlock_superseded, numberedBlock,
      hseq]
    exact ⟨rfl, rfl, rfl⟩
  · rw [hscheduler, hsuperseded]
    change (captureHandover block c).scheduler.held = _ ∧ (captureHandover block c).flags.superseded = _ ∧
      (captureHandover block c).scheduler.audio = _
    rw [captureHandover_of_onData (hcadence.trans hdata), onDataTransmit_scheduler, onDataTransmit_superseded,
      numberedBlock, hseq]
    refine ⟨by split <;> rfl, rfl, ?_⟩
    have hmute : muted c = mute := rfl
    clear_value seq mute
    subst hseq
    cases hst : c.control.selfState <;> cases mute <;>
      simp [onDataFrame, hmute, hst, sends, holdOf, voiceOf]

end Sys2Proof.Machine

/-! # The whole air tick -/

namespace Sys2Proof.Machine

/-! ## The stages of an air tick (R29, R172) -/

/-- The Scheduler's share of an air tick, which it takes first (R29). -/
def scheduled (s : State) : State := offerTick (presenceTick (pacedTransmit s))

/-- The state in which Station Control's own timer is counted: before the table's timeouts, or after them. -/
def beforeControl (choiceFirst : Bool) (s : State) : State :=
  if choiceFirst then scheduled s else tableTick (scheduled s)

/-- The state that the window timer is counted in: Station Control and the Peer Table have had the tick. -/
def beforeWindow (choiceFirst : Bool) (s : State) : State :=
  if choiceFirst then tableTick (controlTick (beforeControl choiceFirst s))
  else controlTick (beforeControl choiceFirst s)

theorem airTickInOrder_eq (o : Bool) (s : State) :
    airTickInOrder o s = storeTick (windowTick (beforeWindow o s)) := by
  cases o <;> rfl

/-- The state once the order of the tick has been drawn (notes/assumptions/7.md). -/
def orderDrawn (s : State) : State := { s with tickDraws := s.tickDraws + 1 }

theorem exec_airTick {s : State} (h : s.phase = .running) :
    exec .airTick s = .next (airTickInOrder (Config.choiceBeforeTimeouts s.tickDraws) (orderDrawn s)) := by
  change execAirTick s = _
  rw [execAirTick, h]
  rfl

section Stages

variable (o : Bool) (s : State)

@[simp] theorem scheduled_frame :
    (scheduled s).settings = s.settings ∧ (scheduled s).cbsy = s.cbsy ∧ (scheduled s).control = s.control ∧
    (scheduled s).peers = s.peers ∧ (scheduled s).store = s.store ∧
    (scheduled s).flags = (pacedTransmit s).flags ∧
    (scheduled s).scheduler.held = (pacedTransmit s).scheduler.held ∧
    (scheduled s).scheduler.audio = (pacedTransmit s).scheduler.audio := by
  simp [scheduled]

/-- The table's timeouts set PEER_LOST at most (R63). -/
@[simp] theorem tableTick_flags :
    (tableTick s).flags.underrun = s.flags.underrun ∧ (tableTick s).flags.superseded = s.flags.superseded ∧
    (tableTick s).flags.full = s.flags.full := by
  cases h : s.peers.toList.any lostAtTick <;> simp [tableTick, setFlagIf_flags, withFlag, h, mapPeers]

@[simp] theorem beforeControl_frame :
    (beforeControl o s).settings = s.settings ∧ (beforeControl o s).cbsy = s.cbsy ∧
    (beforeControl o s).control = s.control ∧ (beforeControl o s).store = s.store ∧
    (beforeControl o s).transmit = (scheduled s).transmit ∧
    (beforeControl o s).scheduler = (scheduled s).scheduler ∧
    (beforeControl o s).flags.underrun = (pacedTransmit s).flags.underrun ∧
    (beforeControl o s).flags.superseded = (pacedTransmit s).flags.superseded ∧
    (beforeControl o s).flags.full = (pacedTransmit s).flags.full := by
  cases o <;> simp [beforeControl]

/-- The order is seen in the Peer Table and in PEER_LOST alone. -/
@[simp] theorem beforeWindow_frame :
    (beforeWindow o s).cbsy = s.cbsy ∧ (beforeWindow o s).store = s.store ∧
    (beforeWindow o s).transmit = (controlTick (beforeControl o s)).transmit ∧
    (beforeWindow o s).scheduler = (controlTick (beforeControl o s)).scheduler ∧
    (beforeWindow o s).control = (controlTick (beforeControl o s)).control ∧
    (beforeWindow o s).flags.underrun = (controlTick (beforeControl o s)).flags.underrun ∧
    (beforeWindow o s).flags.superseded = (controlTick (beforeControl o s)).flags.superseded ∧
    (beforeWindow o s).flags.full = (controlTick (beforeControl o s)).flags.full := by
  cases o <;> simp [beforeWindow]

end Stages

/-! ## The transmit event (R22, R29, R30) -/

theorem lapUnlocked_eq (s : State) : lapUnlocked s = decide (s.lap.lock ≠ .locked) := by
  unfold lapUnlocked
  cases s.lap.lock <;> rfl

/-- The frame of the first case of R22 that applies. -/
def activeFrame (s : State) : AudioFrame :=
  if muted s then holdOf s .muted
  else
    match s.scheduler.held with
    | some b => voiceOf b
    | none => if lapUnlocked s then holdOf s .lapLost else holdOf s .underrun

/-- The frame of the first case of R30 that applies. -/
def clashedFrame (s : State) : AudioFrame :=
  holdOf s (if muted s then .muted else if lapUnlocked s && s.scheduler.held.isNone then .lapLost else .underrun)

/-- What a transmit event leaves of the held block: none unless muted (R22, R30). -/
def heldAfter (s : State) : Option HeldBlock := if muted s then s.scheduler.held else none

/-- A locked port that has completed no block since the last transmit event, not muted (R22, R30). -/
def underruns (s : State) : Bool := !muted s && s.scheduler.held.isNone && !lapUnlocked s

/-- A frame placed sets no UNDERRUN. -/
theorem placeAudio_underrun (f : AudioFrame) (s : State) :
    (placeAudio f s).flags.underrun = s.flags.underrun := by
  rw [placeAudio_flags]
  split <;> simp [withFlag]

theorem pacedActive_scheduler (s : State) :
    (pacedActive s).scheduler = { s.scheduler with held := heldAfter s, audio := some (activeFrame s) } := by
  unfold pacedActive
  split
  case h_1 hh hm => simp [heldAfter, activeFrame, dropHeld, hh, hm]
  case h_2 hm => simp [heldAfter, activeFrame, hm]
  case h_3 hh hm => split <;> rename_i hu <;> simp [heldAfter, activeFrame, hh, hm, hu]

theorem pacedActive_flags (s : State) :
    (pacedActive s).flags.underrun = (s.flags.underrun || underruns s) ∧
    (pacedActive s).flags.superseded = (s.flags.superseded || isVoice s.scheduler.audio) := by
  unfold pacedActive
  split
  case h_1 hh hm => simp [-placeAudio_flags, placeAudio_underrun, placeAudio_superseded, underruns, dropHeld, hh]
  case h_2 hm => simp [-placeAudio_flags, placeAudio_underrun, placeAudio_superseded, underruns, hm]
  case h_3 hh hm =>
    split <;> rename_i hu <;>
      simp [-placeAudio_flags, placeAudio_underrun, placeAudio_superseded, underruns, withFlag, hh, hm, hu]

theorem pacedClashed_scheduler (s : State) :
    (pacedClashed s).scheduler = { s.scheduler with held := heldAfter s, audio := some (clashedFrame s) } := by
  unfold pacedClashed
  split
  case h_1 hm => simp [heldAfter, clashedFrame, hm]
  case h_2 hh hm => simp [heldAfter, clashedFrame, dropHeld, holdOf, hh, hm]
  case h_3 hh hm => split <;> rename_i hu <;> simp [heldAfter, clashedFrame, hh, hm, hu]

theorem pacedClashed_flags (s : State) :
    (pacedClashed s).flags.underrun = (s.flags.underrun || underruns s) ∧
    (pacedClashed s).flags.superseded = (s.flags.superseded || isVoice s.scheduler.audio) := by
  unfold pacedClashed
  split
  case h_1 hm => simp [-placeAudio_flags, placeAudio_underrun, placeAudio_superseded, underruns, hm]
  case h_2 hh hm => simp [-placeAudio_flags, placeAudio_underrun, placeAudio_superseded, underruns, dropHeld, hh]
  case h_3 hh hm =>
    split <;> rename_i hu <;>
      simp [-placeAudio_flags, placeAudio_underrun, placeAudio_superseded, underruns, withFlag, hh, hm, hu]

theorem pacedTransmit_of_active {s : State} (hp : s.settings.cadence = .paced)
    (ha : s.control.selfState = .active) : pacedTransmit s = pacedActive s := by
  unfold pacedTransmit
  rw [hp, ha]

theorem pacedTransmit_of_clashed {s : State} (hp : s.settings.cadence = .paced)
    (hc : s.control.selfState = .clashed) : pacedTransmit s = pacedClashed s := by
  unfold pacedTransmit
  rw [hp, hc]

theorem pacedTransmit_of_onData {s : State} (h : s.settings.cadence = .onData) : pacedTransmit s = s := by
  unfold pacedTransmit
  rw [h]

theorem pacedTransmit_of_silent {s : State} (h : sends s.control.selfState = false) : pacedTransmit s = s := by
  rcases pacedTransmit_cases s with e | ⟨_, _, hs, -⟩
  · exact e
  · simp [h] at hs

/-! ## Station Control's timer leaves the audio side (R40, R43, R47) -/

/-- A listening period that ends with no number sets FULL, and the timers set no other flag (R41, R47). -/
theorem controlTick_flags (s : State) :
    (controlTick s).flags =
      if listeningDue s = true ∧ numberChoice s = none then withFlag s.flags .full else s.flags := by
  unfold controlTick
  split
  case h_1 =>
    split
    · rename_i hd
      cases hc : numberChoice s with
      | none => simp [listeningExpiry_of_none hc, hd]
      | some m => simp [listeningExpiry_of_some hc]
    · rename_i hd
      simp [hd]
  case h_2 hs | h_3 hs =>
    have hd : listeningDue s = false := by simp [listeningDue, hs]
    split <;> simp [hd]
  case h_4 hs | h_5 hs =>
    have hd : listeningDue s = false := by simp [listeningDue, hs]
    simp [hd]

@[simp] theorem controlTick_audioFlags (s : State) :
    (controlTick s).flags.underrun = s.flags.underrun ∧
    (controlTick s).flags.superseded = s.flags.superseded := by
  rw [controlTick_flags]
  split <;> simp [withFlag]

/-- An entry to LISTEN-ONLY empties a position that is empty in STARTING already (R29, R47). -/
theorem controlTick_audio {s : State} (h : sends s.control.selfState = true ∨ s.scheduler.audio = none) :
    (controlTick s).scheduler.audio = s.scheduler.audio := by
  unfold controlTick
  split
  case h_1 hs =>
    have haudio : s.scheduler.audio = none := h.resolve_left (by simp [hs, sends])
    split
    · cases hc : numberChoice s with
      | none => simp [listeningExpiry_of_none hc, haudio]
      | some m => simp [listeningExpiry_of_some hc]
    · rfl
  case h_2 | h_3 => split <;> simp
  all_goals rfl

/-- After the transmit event an air tick leaves the audio position, the held block, UNDERRUN and SUPERSEDED. -/
theorem airTickInOrder_audioSide (o : Bool) {s : State}
    (h : sends s.control.selfState = true ∨ s.scheduler.audio = none) :
    (airTickInOrder o s).scheduler.audio = (pacedTransmit s).scheduler.audio ∧
    (airTickInOrder o s).scheduler.held = (pacedTransmit s).scheduler.held ∧
    (airTickInOrder o s).flags.underrun = (pacedTransmit s).flags.underrun ∧
    (airTickInOrder o s).flags.superseded = (pacedTransmit s).flags.superseded := by
  have hp : sends s.control.selfState = true ∨ (pacedTransmit s).scheduler.audio = none := by
    by_cases hs : sends s.control.selfState = true
    · exact .inl hs
    · rw [pacedTransmit_of_silent (Bool.eq_false_iff.2 hs)]
      exact h
  have haudio := controlTick_audio (s := beforeControl o s) (by simpa using hp)
  rw [airTickInOrder_eq]
  simp [haudio]

theorem exec_airTick_audioSide {s : State} (hp : s.phase = .running)
    (h : sends s.control.selfState = true ∨ s.scheduler.audio = none) :
    ∃ t : State, exec .airTick s = .next t ∧
      t.scheduler.audio = (pacedTransmit (orderDrawn s)).scheduler.audio ∧
      t.scheduler.held = (pacedTransmit (orderDrawn s)).scheduler.held ∧
      t.flags.underrun = (pacedTransmit (orderDrawn s)).flags.underrun ∧
      t.flags.superseded = (pacedTransmit (orderDrawn s)).flags.superseded :=
  ⟨_, exec_airTick hp, airTickInOrder_audioSide _ h⟩

/-- Settles O36: by the cadence, and in PACED cadence by the self state. -/
theorem airTickMakesItsAudioFrame : Obligations.AirTickMakesItsAudioFrame := by
  refine ⟨fun s hp hdata h => ?_, fun s hp hpaced => ?_⟩
  · have ht := exec_airTick_audioSide hp h
    rwa [pacedTransmit_of_onData (s := orderDrawn s) hdata] at ht
  · refine ⟨fun ha => ?_, fun hc => ?_, fun hs hnone => ?_⟩
    · obtain ⟨t, ht, haudio, hheld, hunderrun, hsuperseded⟩ :=
        exec_airTick_audioSide hp (.inl ((sends_iff _).2 (.inl ha)))
      obtain ⟨hu, hv⟩ := pacedActive_flags (orderDrawn s)
      rw [pacedTransmit_of_active (s := orderDrawn s) hpaced ha] at haudio hheld hunderrun hsuperseded
      rw [pacedActive_scheduler] at haudio hheld
      refine ⟨t, ht, haudio.trans ?_, hheld, hunderrun.trans (hu.trans ?_), hsuperseded.trans hv⟩
      · rw [activeFrame, lapUnlocked_eq]
        rfl
      · rw [underruns, lapUnlocked_eq]
        rfl
    · obtain ⟨t, ht, haudio, hheld, hunderrun, hsuperseded⟩ :=
        exec_airTick_audioSide hp (.inl ((sends_iff _).2 (.inr hc)))
      obtain ⟨hu, hv⟩ := pacedClashed_flags (orderDrawn s)
      rw [pacedTransmit_of_clashed (s := orderDrawn s) hpaced hc] at haudio hheld hunderrun hsuperseded
      rw [pacedClashed_scheduler] at haudio hheld
      refine ⟨t, ht, haudio.trans ?_, hheld, hunderrun.trans (hu.trans ?_), hsuperseded.trans hv⟩
      · rw [clashedFrame, lapUnlocked_eq]
        rfl
      · rw [underruns, lapUnlocked_eq]
        rfl
    · obtain ⟨t, ht, haudio, hrest⟩ := exec_airTick_audioSide hp (.inr hnone)
      rw [pacedTransmit_of_silent (s := orderDrawn s) hs] at haudio hrest
      exact ⟨t, ht, haudio.trans hnone, hrest⟩

end Sys2Proof.Machine

/-! # The counts, timers and announcements of a whole air tick -/

namespace Sys2Proof.Machine

/-! ## The announce counts (R27, R28) -/

theorem presenceTick_scheduler (s : State) :
    (presenceTick s).scheduler =
      if sends s.control.selfState then
        { s.scheduler with
          presenceCount := if 255 ≤ s.scheduler.presenceCount then 0 else s.scheduler.presenceCount + 1
          announce := if 255 ≤ s.scheduler.presenceCount then some .presence else s.scheduler.announce }
      else s.scheduler := by
  unfold presenceTick
  split
  · obtain ⟨hs, hc⟩ := (presenceDue_iff s).1 ‹_›
    simp [presenceExpiry, hs, hc]
  · rename_i hd
    rw [presenceDue_iff, not_and] at hd
    split
    · rename_i hs
      simp [hd hs]
    · rfl

theorem offerTick_scheduler (s : State) :
    (offerTick s).scheduler =
      if offering s then
        { s.scheduler with
          offerCount := if 31 ≤ s.scheduler.offerCount then 0 else s.scheduler.offerCount + 1
          announce :=
            if 31 ≤ s.scheduler.offerCount ∧ s.scheduler.announce ≠ some .presence then some .offer
            else s.scheduler.announce }
      else s.scheduler := by
  have hdue : offerDue s = true ↔ offering s = true ∧ 31 ≤ s.scheduler.offerCount := by simp [offerDue]
  unfold offerTick
  split
  · obtain ⟨ho, hc⟩ := hdue.1 ‹_›
    by_cases hp : s.scheduler.announce = some .presence <;> simp [offerExpiry, placeOffer_scheduler, ho, hc, hp]
  · rename_i hd
    rw [hdue, not_and] at hd
    split
    · rename_i ho
      simp [hd ho]
    · rfl

/-- A station that does not send leaves the Scheduler alone at an air tick (R27 to R29). -/
theorem scheduled_of_silent {s : State} (h : sends s.control.selfState = false) : scheduled s = s := by
  have hoffer : offering s = false := by
    cases hs : s.control.selfState <;> simp_all [offering, sends]
  have hpresence : presenceTick s = s := by simp [presenceTick, presenceDue, h]
  rw [scheduled, pacedTransmit_of_silent h, hpresence]
  simp [offerTick, offerDue, hoffer]

/-! ## The window timer (R49) -/

/-- The window timer after an air tick: at its limit the window closes (R49). -/
def windowAfter (w : Option Nat) : Option Nat := if timerDue 15000 w then none else timerTick w

theorem windowTick_control (s : State) :
    (windowTick s).control = { s.control with window := windowAfter s.control.window } := by
  unfold windowTick windowAfter windowDue
  split <;> simp

/-- Where the window is closed after the tick no OFFER is left, and the offer count is 0 (R28, R49). -/
theorem windowTick_scheduler {s : State} (h : StationSound s) :
    (windowTick s).scheduler =
      { s.scheduler with
        announce :=
          if windowAfter s.control.window = none ∧ s.scheduler.announce = some .offer then none
          else s.scheduler.announce
        offerCount := if windowAfter s.control.window = none then 0 else s.scheduler.offerCount } := by
  obtain ⟨-, -, -, -, -, -, hoffers, -⟩ := h
  unfold windowTick windowAfter windowDue
  split
  · simp [closePairing_scheduler]
  · cases hw : s.control.window with
    | none =>
      obtain ⟨hcount, hno⟩ := hoffers (by simp [offering, hw])
      simp [timerTick, hno, ← hcount]
    | some w => simp [timerTick]

/-! ## Station Control's own timer, by its value (R40, R43, R46, R47) -/

section Timers

variable {s : State}

theorem controlTick_of_idle (h : s.control.selfState = .unpaired ∨ s.control.selfState = .active) :
    controlTick s = s := by
  unfold controlTick
  rcases h with h | h <;> rw [h]

theorem controlTick_starting {n : Nat} (h : s.control.selfState = .starting) (ht : s.control.startTimer = some n) :
    controlTick s =
      if 63 ≤ n then listeningExpiry s
      else { s with control := { s.control with startTimer := some (n + 1) } } := by
  unfold controlTick
  rw [h]
  simp [listeningDue, timerDue, timerTick, h, ht]

theorem controlTick_clashed {n : Nat} (h : s.control.selfState = .clashed) (ht : s.control.clashWait = some n) :
    controlTick s =
      if 63 ≤ n then clashWaitExpires s
      else { s with control := { s.control with clashWait := some (n + 1) } } := by
  unfold controlTick
  rw [h]
  simp [clashWaitDue, timerDue, timerTick, h, ht]

theorem controlTick_listenOnly {n : Nat} (h : s.control.selfState = .listenOnly)
    (ht : s.control.retryCount = some n) :
    controlTick s =
      if 255 ≤ n then retryChoice s
      else { s with control := { s.control with retryCount := some (n + 1) } } := by
  unfold controlTick
  rw [h]
  simp [retryDue, timerDue, timerTick, h, ht]

end Timers

/-! ## The number chosen, before the table's timeouts or after them (R41) -/

/-- The choice reads the Peer Table and the preferred number alone. -/
theorem numberChoice_congr {s t : State} (hg : t.settings = s.settings) (hp : t.peers = s.peers) :
    numberChoice t = numberChoice s := by
  have hpeer (k : Station) : peerAt t k = peerAt s k := peerAt_congr hp k
  simp only [numberChoice, hg, hpeer]

theorem tableTick_peers (s : State) : (tableTick s).peers = (mapPeers silenceTick s).peers := by simp [tableTick]

theorem numberChoice_beforeControl (o : Bool) (s : State) :
    numberChoice (beforeControl o s) = numberChoice s ∨
    numberChoice (beforeControl o s) = numberChoice (tableTick s) := by
  cases o with
  | true => exact .inl (numberChoice_congr (by simp) (by simp [beforeControl]))
  | false => exact .inr (numberChoice_congr (by simp) (by simp [beforeControl, tableTick_peers, mapPeers]))

/-! ## The refused marks (R70) -/

/-- The table's timeouts leave the refused marks. -/
theorem silenceTick_refused (p : Peer) : (silenceTick p).entry.refused = p.entry.refused := by
  unfold silenceTick
  split
  · rfl
  all_goals split <;> rfl

theorem tableTick_refused (s : State) (k : Station) :
    (peerAt (tableTick s) k).entry.refused = (peerAt s k).entry.refused := by
  simp [tableTick, silenceTick_refused]

/-! ## Station Control and the Scheduler after the tick -/

/-- The timers of Station Control leave the window's. -/
theorem controlTick_window (s : State) : (controlTick s).control.window = s.control.window := by
  unfold controlTick listeningExpiry clashWaitExpires retryChoice
  split
  case h_4 | h_5 => rfl
  all_goals
    split
    · split <;> simp
    · rfl

section Tick

variable (o : Bool) {s : State}

theorem beforeControl_stationSound (h : StationSound s) : StationSound (beforeControl o s) := by
  have hs : StationSound (scheduled s) :=
    offerTick_stationSound (presenceTick_stationSound (pacedTransmit_stationSound h))
  exact hs.congr (by simp) (by simp)

theorem airTickInOrder_control :
    (airTickInOrder o s).control =
      { (controlTick (beforeControl o s)).control with window := windowAfter s.control.window } := by
  rw [airTickInOrder_eq]
  simp [windowTick_control, controlTick_window]

theorem airTickInOrder_scheduler (h : StationSound s) :
    (airTickInOrder o s).scheduler =
      { (controlTick (beforeControl o s)).scheduler with
        announce :=
          if windowAfter s.control.window = none ∧
              (controlTick (beforeControl o s)).scheduler.announce = some .offer then none
          else (controlTick (beforeControl o s)).scheduler.announce
        offerCount :=
          if windowAfter s.control.window = none then 0
          else (controlTick (beforeControl o s)).scheduler.offerCount } := by
  have hsound : StationSound (beforeWindow o s) :=
    (controlTick_stationSound (beforeControl_stationSound o h)).congr (by simp) (by simp)
  simp only [airTickInOrder_eq, storeTick_frame, windowTick_scheduler hsound]
  simp [controlTick_window]

/-- A count of `limit + 1` values goes on by one, and back to 0 at its limit. -/
theorem count_mod {n limit : Nat} (h : n ≤ limit) :
    (if limit ≤ n then 0 else n + 1) = (n + 1) % (limit + 1) := by
  split
  · rw [show n = limit by omega, Nat.mod_self]
  · rw [Nat.mod_eq_of_lt (by omega)]

theorem scheduled_presenceCount (h : StationSound s) (hs : sends s.control.selfState = true) :
    (scheduled s).scheduler.presenceCount = (s.scheduler.presenceCount + 1) % 256 := by
  obtain ⟨-, -, -, -, -, -, -, -, hcount, -⟩ := h
  rw [← count_mod hcount, scheduled, offerTick_scheduler]
  split <;> simp [presenceTick_scheduler, hs]

/-- In ACTIVE the offer count runs while the window stays open (R28). -/
theorem scheduled_offerCount (h : StationSound s) (ha : s.control.selfState = .active)
    (hw : windowAfter s.control.window ≠ none) :
    (scheduled s).scheduler.offerCount = (s.scheduler.offerCount + 1) % 32 := by
  obtain ⟨-, -, -, -, -, -, -, -, -, hcount⟩ := h
  have hopen : s.control.window.isSome = true := by
    cases hc : s.control.window with
    | none => simp [hc, windowAfter, timerDue, timerTick] at hw
    | some w => rfl
  rw [← count_mod hcount, scheduled, offerTick_scheduler]
  simp [offering, ha, hopen, presenceTick_scheduler, sends]

/-- Where no OFFER is sent the offer count is 0 and no OFFER is pending (R28, R29). -/
theorem scheduled_of_no_offers (h : StationSound s) (ho : offering s = false) :
    (scheduled s).scheduler.offerCount = 0 ∧
    (scheduled s).scheduler.announce =
      if sends s.control.selfState = true ∧ s.scheduler.presenceCount = 255 then some .presence
      else s.scheduler.announce := by
  obtain ⟨-, -, -, -, -, -, hoffers, -, hcount, -⟩ := h
  obtain ⟨hzero, -⟩ := hoffers ho
  have hlimit : 255 ≤ s.scheduler.presenceCount ↔ s.scheduler.presenceCount = 255 := by omega
  have ho' : offering (presenceTick (pacedTransmit s)) = false := by simpa [offering] using ho
  rw [scheduled, offerTick_scheduler, if_neg (by simp [ho']), presenceTick_scheduler]
  cases hs : sends s.control.selfState <;> simp [hs, hzero, hlimit]

/-- In ACTIVE a PRESENCE stays or comes, and an OFFER comes where the offer count is at its limit (R26 to R28). -/
theorem scheduled_announce_offering (h : StationSound s) (ho : offering s = true) :
    (scheduled s).scheduler.announce =
      if s.scheduler.presenceCount = 255 ∨ s.scheduler.announce = some .presence then some .presence
      else if s.scheduler.offerCount = 31 then some .offer
      else s.scheduler.announce := by
  obtain ⟨-, -, -, -, -, -, -, -, hcount, hcount'⟩ := h
  have hlimit : 255 ≤ s.scheduler.presenceCount ↔ s.scheduler.presenceCount = 255 := by omega
  have hlimit' : 31 ≤ s.scheduler.offerCount ↔ s.scheduler.offerCount = 31 := by omega
  have ho' : offering (presenceTick (pacedTransmit s)) = true := by simpa [offering] using ho
  have hs : sends s.control.selfState = true := by
    simp only [offering, Bool.and_eq_true, beq_iff_eq] at ho
    simp [ho, sends]
  rw [scheduled, offerTick_scheduler, if_pos ho', presenceTick_scheduler]
  simp only [pacedTransmit_frame, hs, if_true, pacedTransmit_announce, hlimit, hlimit']
  by_cases hp : s.scheduler.presenceCount = 255
  · simp [hp]
  · by_cases hpres : s.scheduler.announce = some .presence <;> simp [hp, hpres]

/-- ACTIVE at an air tick: Station Control counts the window alone. -/
theorem airTick_active (h : StationSound s) (ha : s.control.selfState = .active) :
    (airTickInOrder o s).control = { s.control with window := windowAfter s.control.window } ∧
    (airTickInOrder o s).scheduler.presenceCount = (s.scheduler.presenceCount + 1) % 256 ∧
    (airTickInOrder o s).scheduler.offerCount =
      (if windowAfter s.control.window = none then 0 else (s.scheduler.offerCount + 1) % 32) ∧
    (airTickInOrder o s).scheduler.announce =
      (if s.scheduler.presenceCount = 255 ∨ s.scheduler.announce = some .presence then some .presence
        else if windowAfter s.control.window = none then none
        else if s.scheduler.offerCount = 31 then some .offer
        else s.scheduler.announce) := by
  have hidle : controlTick (beforeControl o s) = beforeControl o s := controlTick_of_idle (.inr (by simpa using ha))
  rw [airTickInOrder_control, airTickInOrder_scheduler o h, hidle]
  refine ⟨by simp, ?_, ?_, ?_⟩
  · simpa using scheduled_presenceCount h (by simp [ha, sends])
  · by_cases hw : windowAfter s.control.window = none
    · simp [hw]
    · simp [hw, scheduled_offerCount h ha hw]
  · simp only [beforeControl_frame]
    cases ho : offering s with
    | true =>
      rw [scheduled_announce_offering h ho]
      by_cases hp : s.scheduler.presenceCount = 255 ∨ s.scheduler.announce = some .presence
      · simp [hp]
      · rw [if_neg hp, if_neg hp]
        have hno : s.scheduler.announce ≠ some .presence := fun e => hp (.inr e)
        cases hn : s.scheduler.announce with
        | none => by_cases hw : windowAfter s.control.window = none <;> simp [hw]
        | some a =>
          cases a with
          | presence => exact absurd hn hno
          | offer => by_cases hw : windowAfter s.control.window = none <;> simp [hw]
    | false =>
      obtain ⟨-, hannounce⟩ := scheduled_of_no_offers h ho
      obtain ⟨-, -, -, -, -, -, hoffers, -⟩ := h
      obtain ⟨-, hno⟩ := hoffers ho
      have hw : s.control.window = none := by simpa [offering, ha] using ho
      have hclosed : windowAfter s.control.window = none := by rw [hw]; rfl
      rw [hannounce]
      by_cases hp : s.scheduler.presenceCount = 255
      · simp [hp, ha, sends]
      · cases hn : s.scheduler.announce with
        | none => simp [hp, hclosed]
        | some a =>
          cases a with
          | presence => simp [hp]
          | offer => exact absurd hn hno

/-- CLASHED at an air tick that does not end the clash wait: no OFFER is pending, so the window's close takes
nothing (R28, R43). -/
theorem airTick_clashed {n : Nat} (h : StationSound s) (hc : s.control.selfState = .clashed)
    (ht : s.control.clashWait = some n) (hn : n < 63) :
    (airTickInOrder o s).control =
      { s.control with window := windowAfter s.control.window, clashWait := some (n + 1) } ∧
    (airTickInOrder o s).scheduler.presenceCount = (s.scheduler.presenceCount + 1) % 256 ∧
    (airTickInOrder o s).scheduler.offerCount = 0 ∧
    (airTickInOrder o s).scheduler.announce =
      (if s.scheduler.presenceCount = 255 then some .presence else s.scheduler.announce) := by
  have hs : sends s.control.selfState = true := by simp [hc, sends]
  have ho : offering s = false := by simp [offering, hc]
  obtain ⟨hzero, hannounce⟩ := scheduled_of_no_offers h ho
  have hcount := scheduled_presenceCount h hs
  obtain ⟨-, -, -, -, -, -, hoffers, -⟩ := id h
  obtain ⟨-, hno⟩ := hoffers ho
  have hwait := controlTick_clashed (s := beforeControl o s) (by simpa using hc) (by simpa using ht)
  rw [if_neg (by omega)] at hwait
  rw [airTickInOrder_control, airTickInOrder_scheduler o h, hwait]
  refine ⟨by simp, by simpa using hcount, by simp [hzero], ?_⟩
  simp only [beforeControl_frame, hannounce, hs, true_and]
  by_cases hp : s.scheduler.presenceCount = 255 <;> simp [hp, hno]

/-- The air tick that ends the clash wait: ACTIVE with the number kept (R42, R46). -/
theorem airTick_clashEnds (h : StationSound s) (hc : s.control.selfState = .clashed)
    (ht : s.control.clashWait = some 63) :
    (airTickInOrder o s).control =
      { s.control with
        selfState := .active, window := windowAfter s.control.window, startTimer := none, clashWait := none
        retryCount := none } ∧
    (airTickInOrder o s).scheduler.presenceCount = 0 ∧ (airTickInOrder o s).scheduler.offerCount = 0 ∧
    (airTickInOrder o s).scheduler.announce = some .presence := by
  obtain ⟨n, hn⟩ : ∃ n, s.control.number = some n :=
    Option.isSome_iff_exists.1 (by rw [h.number_isSome, hc]; rfl)
  have hwait := controlTick_clashed (s := beforeControl o s) (by simpa using hc) (by simpa using ht)
  have hactive : clashWaitExpires (beforeControl o s) = enterActive n (beforeControl o s) := by
    simp [clashWaitExpires, hn]
  rw [if_pos (by omega), hactive] at hwait
  rw [airTickInOrder_control, airTickInOrder_scheduler o h, hwait]
  exact ⟨by simp [hn], by simp, by simp, by simp⟩

/-- A station that does not send, and whose own timer does not end, has nothing pending and counts nothing. -/
theorem airTick_silent (h : StationSound s) (hs : sends s.control.selfState = false)
    (hq : (controlTick (beforeControl o s)).scheduler = (beforeControl o s).scheduler) :
    (airTickInOrder o s).scheduler.presenceCount = 0 ∧ (airTickInOrder o s).scheduler.announce = none := by
  obtain ⟨-, hannounce, hcount, -⟩ := h.silent hs
  rw [airTickInOrder_scheduler o h, hq]
  simp [scheduled_of_silent hs, hannounce, hcount]

theorem airTick_unpaired (h : StationSound s) (hu : s.control.selfState = .unpaired) :
    (airTickInOrder o s).control = { s.control with window := windowAfter s.control.window } ∧
    (airTickInOrder o s).scheduler.presenceCount = 0 := by
  have hidle : controlTick (beforeControl o s) = beforeControl o s := controlTick_of_idle (.inl (by simpa using hu))
  obtain ⟨hcount, -⟩ := airTick_silent o h (by simp [hu, sends]) (by rw [hidle])
  refine ⟨?_, hcount⟩
  rw [airTickInOrder_control, hidle]
  simp

theorem airTick_starting {n : Nat} (h : StationSound s) (hs : s.control.selfState = .starting)
    (ht : s.control.startTimer = some n) (hn : n < 63) :
    (airTickInOrder o s).control =
      { s.control with window := windowAfter s.control.window, startTimer := some (n + 1) } ∧
    (airTickInOrder o s).scheduler.presenceCount = 0 ∧ (airTickInOrder o s).scheduler.announce = none := by
  have htick := controlTick_starting (s := beforeControl o s) (by simpa using hs) (by simpa using ht)
  rw [if_neg (by omega)] at htick
  refine ⟨?_, airTick_silent o h (by simp [hs, sends]) (by rw [htick])⟩
  rw [airTickInOrder_control, htick]
  simp

theorem airTick_listenOnly {n : Nat} (h : StationSound s) (hs : s.control.selfState = .listenOnly)
    (ht : s.control.retryCount = some n) (hn : n < 255) :
    (airTickInOrder o s).control =
      { s.control with window := windowAfter s.control.window, retryCount := some (n + 1) } ∧
    (airTickInOrder o s).scheduler.presenceCount = 0 ∧ (airTickInOrder o s).scheduler.announce = none := by
  have htick := controlTick_listenOnly (s := beforeControl o s) (by simpa using hs) (by simpa using ht)
  rw [if_neg (by omega)] at htick
  refine ⟨?_, airTick_silent o h (by simp [hs, sends]) (by rw [htick])⟩
  rw [airTickInOrder_control, htick]
  simp

end Tick

/-! ## The air tick at which a number is chosen (R40, R41, R47, R70) -/

/-- The start timer or the retry count stands one below its limit. -/
abbrev ChoiceDue (s : State) : Prop :=
  (s.control.selfState = .starting ∧ s.control.startTimer = some 63) ∨
  (s.control.selfState = .listenOnly ∧ s.control.retryCount = some 255)

section Choice

variable {s : State}

theorem controlTick_of_start (hs : s.control.selfState = .starting) (ht : s.control.startTimer = some 63) :
    controlTick s = listeningExpiry s := by
  rw [controlTick_starting hs ht, if_pos le_rfl]

theorem controlTick_of_retry (hs : s.control.selfState = .listenOnly) (ht : s.control.retryCount = some 255) :
    controlTick s = retryChoice s := by
  rw [controlTick_listenOnly hs ht, if_pos le_rfl]

/-- A number chosen takes the station to ACTIVE, from either state (R41, R42, R47). -/
theorem controlTick_chooses {m : Station} (hd : ChoiceDue s) (hm : numberChoice s = some m) :
    (controlTick s).control =
      { s.control with
        selfState := .active, number := some m, startTimer := none, clashWait := none, retryCount := none } ∧
    (controlTick s).scheduler =
      { s.scheduler with announce := some .presence, presenceCount := 0, offerCount := 0 } ∧
    (controlTick s).flags.full = s.flags.full := by
  rcases hd with ⟨hs, ht⟩ | ⟨hs, ht⟩
  · rw [controlTick_of_start hs ht, listeningExpiry_of_some hm]
    simp
  · rw [controlTick_of_retry hs ht, retryChoice_of_some hm]
    simp

/-- With none chosen the station is in LISTEN-ONLY with the retry count at 0; FULL comes with the entry alone
(R41, R47). -/
theorem controlTick_findsNone (h : StationSound s) (hd : ChoiceDue s) (hm : numberChoice s = none) :
    (controlTick s).control =
      { s.control with
        selfState := .listenOnly, number := none, startTimer := none, clashWait := none, retryCount := some 0 } ∧
    (controlTick s).scheduler.announce = none ∧ (controlTick s).scheduler.audio = none ∧
    (controlTick s).scheduler.presenceCount = 0 ∧ (controlTick s).scheduler.offerCount = 0 ∧
    (controlTick s).flags.full = (s.flags.full || decide (s.control.selfState = .starting)) := by
  rcases hd with ⟨hs, ht⟩ | ⟨hs, ht⟩
  · rw [controlTick_of_start hs ht, listeningExpiry_of_none hm]
    simp [hs, withFlag]
  · obtain ⟨haudio, hannounce, hcount, hoffer⟩ := h.silent (by simp [hs, sends])
    obtain ⟨-, hnumber, hstart, hwait, -⟩ := h
    have hcontrol : s.control =
        { s.control with selfState := .listenOnly, number := none, startTimer := none, clashWait := none } := by
      generalize s.control = c at *
      cases c
      simp_all [sends]
    rw [controlTick_of_retry hs ht, retryChoice_of_none hm]
    refine ⟨?_, by simp [haudio, hannounce, hcount, hoffer, hs]⟩
    simp only [clearRefused_frame]
    rw [hcontrol]

/-- A retry and an entry to LISTEN-ONLY clear the refused marks (R47, R70). -/
theorem controlTick_refused (hd : ChoiceDue s)
    (hc : s.control.selfState = .listenOnly ∨ numberChoice s = none) (k : Station) :
    (peerAt (controlTick s) k).entry.refused = false := by
  rcases hd with ⟨hs, ht⟩ | ⟨hs, ht⟩
  · rw [controlTick_of_start hs ht, listeningExpiry_of_none (hc.resolve_left (by simp [hs])), peerAt_enterListenOnly]
  · rw [controlTick_of_retry hs ht, retryChoice, peerAt_clearRefused]

variable (o : Bool)

theorem beforeControl_choiceDue (hd : ChoiceDue s) : ChoiceDue (beforeControl o s) := by
  simpa [ChoiceDue] using hd

theorem airTick_refused (k : Station) :
    (peerAt (airTickInOrder o s) k).entry.refused = (peerAt (controlTick (beforeControl o s)) k).entry.refused := by
  have hpeer : peerAt (airTickInOrder o s) k = peerAt (beforeWindow o s) k :=
    peerAt_congr (by simp [airTickInOrder_eq]) k
  rw [hpeer]
  cases o with
  | true => exact tableTick_refused _ k
  | false => rfl

theorem airTick_full :
    (airTickInOrder o s).flags.full = (controlTick (beforeControl o s)).flags.full := by
  simp [airTickInOrder_eq]

/-- The silent station at the air tick at which a choice falls due: everything but Station Control's own timer
leaves its Scheduler and FULL. -/
theorem beforeControl_of_choiceDue (hd : ChoiceDue s) :
    (beforeControl o s).scheduler = s.scheduler ∧ (beforeControl o s).flags.full = s.flags.full := by
  have hs : sends s.control.selfState = false := by
    rcases hd with ⟨hs, -⟩ | ⟨hs, -⟩ <;> simp [hs, sends]
  simp [scheduled_of_silent hs, pacedTransmit_of_silent hs]

/-- The air tick at which a number is chosen. -/
theorem airTick_chooses {m : Station} (h : StationSound s) (hd : ChoiceDue s)
    (hm : numberChoice (beforeControl o s) = some m) :
    (airTickInOrder o s).control =
      { s.control with
        selfState := .active, number := some m, window := windowAfter s.control.window, startTimer := none
        clashWait := none, retryCount := none } ∧
    (airTickInOrder o s).scheduler.audio = none ∧
    (airTickInOrder o s).scheduler.announce = some .presence ∧
    (airTickInOrder o s).scheduler.presenceCount = 0 ∧ (airTickInOrder o s).scheduler.offerCount = 0 ∧
    (airTickInOrder o s).flags.full = s.flags.full := by
  obtain ⟨hcontrol, hscheduler, hfull⟩ := controlTick_chooses (beforeControl_choiceDue o hd) hm
  obtain ⟨hq, hf⟩ := beforeControl_of_choiceDue o hd
  have haudio : s.scheduler.audio = none := by
    have hs : sends s.control.selfState = false := by rcases hd with ⟨hs, -⟩ | ⟨hs, -⟩ <;> simp [hs, sends]
    obtain ⟨haudio, -⟩ := h.silent hs
    exact haudio
  rw [airTickInOrder_control, airTickInOrder_scheduler o h, airTick_full, hcontrol, hscheduler, hq, hfull, hf]
  simp [haudio]

/-- The air tick at which a choice finds no number. -/
theorem airTick_findsNone (h : StationSound s) (hd : ChoiceDue s)
    (hm : numberChoice (beforeControl o s) = none) :
    (airTickInOrder o s).control =
      { s.control with
        selfState := .listenOnly, number := none, window := windowAfter s.control.window, startTimer := none
        clashWait := none, retryCount := some 0 } ∧
    (airTickInOrder o s).scheduler.audio = none ∧ (airTickInOrder o s).scheduler.announce = none ∧
    (airTickInOrder o s).scheduler.presenceCount = 0 ∧ (airTickInOrder o s).scheduler.offerCount = 0 ∧
    (airTickInOrder o s).flags.full = (s.flags.full || decide (s.control.selfState = .starting)) := by
  obtain ⟨hcontrol, hannounce, haudio, hcount, hoffer, hfull⟩ :=
    controlTick_findsNone (beforeControl_stationSound o h) (beforeControl_choiceDue o hd) hm
  obtain ⟨-, hf⟩ := beforeControl_of_choiceDue o hd
  rw [airTickInOrder_control, airTickInOrder_scheduler o h, airTick_full, hcontrol, hfull, hf]
  simp [haudio, hannounce, hcount, hoffer]

end Choice

/-! ## The tag write that an air tick starts (R175) -/

theorem tagWriteTransaction_eq (v : Tag) :
    tagWriteTransaction v =
      { sent := [0xC3#8, 24#8, BitVec.ofNat 8 (v.toNat / 256), BitVec.ofNat 8 v.toNat], readBytes := 0 } := by
  have hhigh : v.extractLsb' 8 8 = BitVec.ofNat 8 (v.toNat / 256) :=
    BitVec.eq_of_toNat_eq (by simp [BitVec.extractLsb'_toNat, Nat.shiftRight_eq_div_pow])
  have hlow : v.extractLsb' 0 8 = BitVec.ofNat 8 v.toNat :=
    BitVec.eq_of_toNat_eq (by simp [BitVec.extractLsb'_toNat])
  rw [tagWriteTransaction, hhigh, hlow]

/-- A value queued while no write is in progress is the one that starts (R175, R176). -/
theorem storeTick_starts {s : State} {v : Tag} (hw : s.store.writeState = .idle)
    (hq : s.store.writeQueue = some v) :
    (storeTick s).store =
      { transaction := some (tagWriteTransaction v), writeQueue := none, inProgress := some v
        writeState := .writing } := by
  rw [storeTick, if_pos ((tagWriteDue_iff s).2 ⟨hw, by simp [hq]⟩), startTagWrite, hq]

theorem storeTick_waits {s : State} (h : s.store.writeState ≠ .idle ∨ s.store.writeQueue = none) :
    storeTick s = s := by
  rw [storeTick, if_neg]
  rw [tagWriteDue_iff]
  tauto

/-- The store is the one that the tick began with until its own share. -/
theorem airTick_store (o : Bool) (s : State) :
    ∃ u : State, u.store = s.store ∧ (airTickInOrder o s).store = (storeTick u).store :=
  ⟨windowTick (beforeWindow o s), by simp, by rw [airTickInOrder_eq]⟩

/-! ## The transmit side across an air tick (R25, R29, R31) -/

/-- An access that has begun and is then abandoned leaves what abandoning alone leaves (R31, R34). -/
theorem accessAbandoned_accessBegun {c p : Bool} {t : TransmitSide} (h : AccessSound c p t) (n : Option Station) :
    accessAbandoned (accessBegun c n t) = accessAbandoned t := by
  obtain ⟨-, htimer, -⟩ := h
  obtain ⟨state, gapTimer, onAir⟩ := t
  unfold accessBegun
  split
  · rename_i hi
    obtain rfl : state = .idle := hi
    obtain rfl : gapTimer = none := by simpa using htimer
    cases c <;> simp [accessAbandoned]
  · rfl

/-- From a sound link in `s`, the transmit side of `u` is what the frames pending in `u` make of it: an access
has begun from IDLE, or one is abandoned, and anything else goes on. -/
def AccessFollows (s u : State) : Prop :=
  u.transmit =
    if framePending u = true then accessBegun s.cbsy u.control.number s.transmit else accessAbandoned s.transmit

/-- So far the transmit side follows, and no frame that was pending has gone. -/
structure AccessKept (s u : State) : Prop where
  follows : AccessFollows s u
  pending : framePending s = true → framePending u = true
  cbsy : u.cbsy = s.cbsy

section Access

variable {s u v : State}

theorem accessSound_of_linkSound (h : LinkSound s) : AccessSound s.cbsy (framePending s) s.transmit := by
  obtain ⟨-, -, hacc⟩ := (linkSound_iff s).1 h
  exact hacc

/-- A sound side with no frame pending has no access to abandon, and one with a frame none to begin. -/
theorem AccessKept.refl (h : LinkSound s) : AccessKept s s := by
  obtain ⟨-, -, hacc, hidle, -⟩ := accessSound_of_linkSound h
  refine ⟨?_, id, rfl⟩
  unfold AccessFollows accessBegun accessAbandoned
  split
  · rename_i hp
    rw [if_neg fun e => by simp [hidle e] at hp]
  · rename_i hp
    rw [if_neg fun e => hp (hacc ((accessing_iff _).2 e))]

/-- The Scheduler's and Station Control's changes that touch neither the frames nor the number. -/
theorem AccessKept.same (h : AccessKept s u) (hc : v.cbsy = u.cbsy) (ht : v.transmit = u.transmit)
    (hp : framePending v = framePending u) (hn : v.control.number = u.control.number) : AccessKept s v := by
  obtain ⟨hfollows, hpending, hcbsy⟩ := h
  refine ⟨?_, by rwa [hp], hc.trans hcbsy⟩
  unfold AccessFollows at hfollows ⊢
  rwa [ht, hp, hn]

/-- A frame placed: the access is the one already begun, if a frame was pending, or begins now. -/
theorem AccessKept.begun (hs : LinkSound s) (h : AccessKept s u) (hc : v.cbsy = u.cbsy)
    (ht : v.transmit = accessBegun u.cbsy v.control.number u.transmit) (hp : framePending v = true)
    (hn : framePending u = true → v.control.number = u.control.number) : AccessKept s v := by
  obtain ⟨hfollows, hpending, hcbsy⟩ := h
  refine ⟨?_, fun _ => hp, hc.trans hcbsy⟩
  unfold AccessFollows at hfollows ⊢
  rw [if_pos hp, ht, hcbsy]
  by_cases hu : framePending u = true
  · rw [hfollows, if_pos hu, accessBegun_accessBegun, hn hu]
  · have hnone : framePending s = false := Bool.eq_false_iff.2 fun e => hu (hpending e)
    have hself : s.transmit = accessAbandoned s.transmit := by
      have := (AccessKept.refl hs).follows
      rwa [AccessFollows, hnone, if_neg Bool.false_ne_true] at this
    rw [hfollows, if_neg hu, ← hself]

/-- Both positions emptied where nothing was pending. -/
theorem AccessKept.abandoned (h : AccessKept s u) (hc : v.cbsy = u.cbsy)
    (ht : v.transmit = accessAbandoned u.transmit) (hu : framePending u = false) (hv : framePending v = false) :
    AccessKept s v := by
  obtain ⟨hfollows, hpending, hcbsy⟩ := h
  refine ⟨?_, fun e => by simp [hu] at hpending; simp [hpending] at e, hc.trans hcbsy⟩
  unfold AccessFollows at hfollows ⊢
  rw [hu, if_neg Bool.false_ne_true] at hfollows
  rw [hv, if_neg Bool.false_ne_true, ht, hfollows, accessAbandoned_accessAbandoned]

/-! ## The stages of the tick keep it -/

theorem AccessKept.placeAudio (hs : LinkSound s) (h : AccessKept s u) (f : AudioFrame) :
    AccessKept s (placeAudio f u) :=
  h.begun hs (by simp) (by simp [placeAudio_transmit]) (by simp [framePending]) (by simp)

theorem AccessKept.pacedTransmit (hs : LinkSound s) (h : AccessKept s u) : AccessKept s (pacedTransmit u) := by
  obtain e | ⟨f, w, -, -, hw, e⟩ := pacedTransmit_cases u <;> rw [e]
  · exact h
  · refine AccessKept.placeAudio hs (h.same ?_ ?_ ?_ ?_) f <;> rcases hw with rfl | rfl | rfl <;> rfl

theorem AccessKept.presenceTick (hs : LinkSound s) (h : AccessKept s u) : AccessKept s (presenceTick u) := by
  unfold Machine.presenceTick
  split
  · exact h.begun hs (by simp) (by simp [presenceExpiry, placePresence_transmit])
      (by simp [presenceExpiry, framePending]) (by simp)
  · split
    · exact h.same rfl rfl rfl rfl
    · exact h

theorem AccessKept.placeOffer (hs : LinkSound s) (h : AccessKept s u) : AccessKept s (placeOffer u) := by
  by_cases hp : u.scheduler.announce = some .presence
  · rwa [placeOffer_of_presence hp]
  · rw [placeOffer_of_no_presence hp]
    exact h.begun hs rfl rfl (by simp [framePending]) fun _ => rfl

theorem AccessKept.offerTick (hs : LinkSound s) (h : AccessKept s u) : AccessKept s (offerTick u) := by
  unfold Machine.offerTick
  split
  · exact AccessKept.placeOffer hs (h.same rfl rfl rfl rfl)
  · split
    · exact h.same rfl rfl rfl rfl
    · exact h

theorem AccessKept.enterActive (hs : LinkSound s) (h : AccessKept s u) (n : Station)
    (hn : framePending u = true → u.control.number = some n) : AccessKept s (enterActive n u) :=
  h.begun hs (by simp) (by simp [enterActive_transmit]) (by simp [framePending]) fun e => by simp [hn e]

/-- The number changes only where nothing is pending, in the states that do not send (R29, R40, R47). -/
theorem AccessKept.controlTick (hs : LinkSound s) (hu : StationSound u) (h : AccessKept s u) :
    AccessKept s (controlTick u) := by
  have hnone (e : sends u.control.selfState = false) : framePending u = false := by
    obtain ⟨haudio, hannounce, -⟩ := hu.silent e
    exact (framePending_eq_false_iff u).2 ⟨haudio, hannounce⟩
  unfold Machine.controlTick
  split
  case h_1 hst =>
    have hp := hnone (by simp [hst, sends])
    split
    · unfold listeningExpiry
      split
      · exact h.enterActive hs _ (by simp [hp])
      · exact h.abandoned (by simp) (enterListenOnly_transmit u) hp (by simp [framePending])
    · exact h.same rfl rfl rfl rfl
  case h_2 =>
    split
    · unfold clashWaitExpires
      split
      · exact h.enterActive hs _ fun _ => ‹_›
      · exact h
    · exact h.same rfl rfl rfl rfl
  case h_3 hst =>
    have hp := hnone (by simp [hst, sends])
    split
    · unfold retryChoice
      split
      · rename_i m _
        exact (h.enterActive hs m (by simp [hp])).same rfl rfl rfl rfl
      · exact h.same rfl rfl rfl rfl
    · exact h.same rfl rfl rfl rfl
  all_goals exact h

/-- A discarded OFFER takes with it an access that was its own alone (R29, R31). -/
theorem AccessKept.discardOffer (hs : LinkSound s) (h : AccessKept s u) : AccessFollows s (discardOffer u) := by
  by_cases ho : u.scheduler.announce = some .offer
  · have hfollows := h.follows
    rw [AccessFollows, if_pos (by simp [framePending, ho])] at hfollows
    rw [discardOffer_of_offer ho, AccessFollows]
    cases ha : u.scheduler.audio with
    | none =>
      simp only [framePending, ha, hfollows]
      exact accessAbandoned_accessBegun (accessSound_of_linkSound hs) _
    | some f => simpa [framePending, ha] using hfollows
  · rw [discardOffer_of_no_offer ho]
    exact h.follows

theorem AccessKept.windowTick (hs : LinkSound s) (h : AccessKept s u) : AccessFollows s (windowTick u) := by
  unfold Machine.windowTick
  split
  · exact AccessKept.discardOffer hs (h.same rfl rfl rfl rfl)
  · exact h.follows

end Access

/-- The transmit side after a whole air tick (R25, R29, R31). -/
theorem airTick_accessFollows (o : Bool) {s : State} (hl : LinkSound s) (h : StationSound s) :
    AccessFollows s (airTickInOrder o s) := by
  have hscheduled : AccessKept s (scheduled s) :=
    (((AccessKept.refl hl).pacedTransmit hl).presenceTick hl).offerTick hl
  have hbefore : AccessKept s (beforeControl o s) :=
    hscheduled.same (by simp) (by simp) (by simp [framePending]) (by simp)
  have hcontrol := hbefore.controlTick hl (beforeControl_stationSound o h)
  have hwindow : AccessKept s (beforeWindow o s) :=
    hcontrol.same (by simp) (by simp) (by simp [framePending]) (by simp)
  have hfollows := hwindow.windowTick hl
  rw [airTickInOrder_eq]
  simpa [AccessFollows, framePending] using hfollows

/-! ## The whole -/

theorem windowAfter_of_below {w : Option Nat} (h : ∀ n ∈ w, n < 15000) :
    (w = none → windowAfter w = none) ∧
    ∀ n ∈ w, windowAfter w = if n = 14999 then none else some (n + 1) := by
  refine ⟨?_, ?_⟩
  · rintro rfl
    rfl
  · rintro n rfl
    have hlimit : 15000 ≤ n + 1 ↔ n = 14999 := by
      have := h n rfl
      omega
    simp [windowAfter, timerDue, timerTick, hlimit]

/-- The choice of an air tick whose order has been drawn is one of the two that the rules allow. -/
theorem numberChoice_orderDrawn (o : Bool) (s : State) :
    numberChoice (beforeControl o (orderDrawn s)) = numberChoice s ∨
    numberChoice (beforeControl o (orderDrawn s)) = numberChoice (tableTick s) := by
  have htable : numberChoice (tableTick (orderDrawn s)) = numberChoice (tableTick s) :=
    numberChoice_congr (by simp [orderDrawn]) (by simp [tableTick_peers, mapPeers, orderDrawn])
  rw [← htable]
  exact numberChoice_beforeControl o (orderDrawn s)

/-- Settles O38: the clauses of the self states, and then those of the transmit side and the store. -/
theorem airTickCountsTimersAndAnnouncements : Obligations.AirTickCountsTimersAndAnnouncements := by
  intro s hp hstation htimers window counted stopped
  obtain ⟨-, -, -, hbelow⟩ := htimers
  have hwindow : window = windowAfter s.control.window := by
    obtain ⟨hclosed, hopen⟩ := windowAfter_of_below hbelow
    simp only [window]
    cases hw : s.control.window with
    | none => exact (hw ▸ hclosed hw).symm
    | some n => exact (hw ▸ hopen n hw).symm
  clear_value window
  subst hwindow
  obtain ⟨-, -, hstart, hwait, hretry, -⟩ := id hstation
  have hsound : StationSound (orderDrawn s) := hstation
  have starting {n : Nat} (ht : s.control.startTimer = some n) : s.control.selfState = .starting :=
    hstart.1 (by simp [ht])
  have clashed {n : Nat} (ht : s.control.clashWait = some n) : s.control.selfState = .clashed :=
    hwait.1 (by simp [ht])
  have listenOnly {n : Nat} (ht : s.control.retryCount = some n) : s.control.selfState = .listenOnly :=
    hretry.1 (by simp [ht])
  obtain ⟨o, ho⟩ : ∃ o : Bool, exec .airTick s = .next (airTickInOrder o (orderDrawn s)) := ⟨_, exec_airTick hp⟩
  refine ⟨_, _, ho, numberChoice_orderDrawn o s, airTick_unpaired o hsound, airTick_active o hsound,
    fun n ht hn => airTick_clashed o hsound (clashed ht) ht hn, fun ht => airTick_clashEnds o hsound (clashed ht) ht,
    fun n ht hn => airTick_starting o hsound (starting ht) ht hn,
    fun n ht hn => airTick_listenOnly o hsound (listenOnly ht) ht hn, fun hdue => ?_, fun hl => ?_, ?_⟩
  · have hd : ChoiceDue (orderDrawn s) := hdue.imp (fun ht => ⟨starting ht, ht⟩) fun ht => ⟨listenOnly ht, ht⟩
    have hbefore : (beforeControl o (orderDrawn s)).control = s.control := by simp [orderDrawn]
    have hrefused (hc : s.control.selfState = .listenOnly ∨ numberChoice (beforeControl o (orderDrawn s)) = none)
        (k : Station) : (peerAt (airTickInOrder o (orderDrawn s)) k).entry.refused = false :=
      (airTick_refused o k).trans (controlTick_refused (beforeControl_choiceDue o hd) (by rwa [hbefore]) k)
    cases hm : numberChoice (beforeControl o (orderDrawn s)) with
    | none =>
      obtain ⟨hcontrol, haudio, hannounce, hcount, hoffer, hfull⟩ := airTick_findsNone o hsound hd hm
      exact ⟨hcount, hoffer, haudio, by simpa using hannounce, by simp, fun _ => ⟨hcontrol, hfull⟩,
        fun _ => hrefused (.inr hm)⟩
    | some m =>
      obtain ⟨hcontrol, haudio, hannounce, hcount, hoffer, hfull⟩ := airTick_chooses o hsound hd hm
      refine ⟨hcount, hoffer, haudio, by simpa using hannounce, ?_, by simp, fun hc => hrefused (hc.imp_right (by simp))⟩
      intro m' hm'
      obtain rfl := Option.some.inj hm'
      exact ⟨hcontrol, hfull⟩
  · have hfollows := airTick_accessFollows o (s := orderDrawn s) hl hsound
    rw [AccessFollows] at hfollows
    by_cases hpending : framePending (airTickInOrder o (orderDrawn s)) = true
    · rw [if_pos hpending] at hfollows
      rw [if_neg fun e => by simp [(framePending_eq_false_iff _).2 e] at hpending]
      exact hfollows
    · rw [if_neg hpending] at hfollows
      rw [if_pos ((framePending_eq_false_iff _).1 (Bool.eq_false_iff.2 hpending))]
      exact hfollows
  · obtain ⟨u, hu, hstore⟩ := airTick_store o (orderDrawn s)
    have hu' : u.store = s.store := hu
    rw [hstore]
    split
    · rename_i v hw hq
      rw [storeTick_starts (by rwa [hu']) (by rwa [hu']), tagWriteTransaction_eq]
    · rename_i hno
      rw [storeTick_waits, hu']
      rw [hu', or_iff_not_imp_left, not_not]
      intro hw
      exact Option.eq_none_iff_forall_ne_some.2 fun v hq => hno v hw hq

end Sys2Proof.Machine

/-! # The unit identifier, the number chosen, and the end of the clash wait -/

namespace Sys2Proof.Machine

/-! ## The unit identifier lasts (R37) -/

/-- A rising PAIR writes the window and, in an UNPAIRED GATEWAY, what a created tag brings (R49, R50). -/
@[simp] theorem openPairing_unitId (s : State) : (openPairing s).control.unitId = s.control.unitId := by
  rw [openPairing_eq]
  split
  · simp [windowOpened]
  · rfl

/-- FORGET's power-on state of Station Control is one with the same identifier (R37, R53). -/
@[simp] theorem takeControl_unitId (w : Option (BitVec 16)) (s : State) :
    (takeControl w s).control.unitId = s.control.unitId := by
  refine takeControl_induction (P := fun u => u.control.unitId = s.control.unitId) w rfl ?_ ?_ ?_ fun _ _ hu => hu
  all_goals
    intro u hu
    simpa [StationControl.powerOn] using hu

@[simp] theorem listeningExpiry_unitId (s : State) : (listeningExpiry s).control.unitId = s.control.unitId := by
  unfold listeningExpiry
  split <;> simp

@[simp] theorem clashWaitExpires_unitId (s : State) :
    (clashWaitExpires s).control.unitId = s.control.unitId := by
  unfold clashWaitExpires
  split <;> simp

@[simp] theorem retryChoice_unitId (s : State) : (retryChoice s).control.unitId = s.control.unitId := by
  unfold retryChoice
  split <;> simp

@[simp] theorem controlTick_unitId (s : State) : (controlTick s).control.unitId = s.control.unitId := by
  unfold controlTick
  split
  case h_4 | h_5 => rfl
  all_goals split <;> simp

@[simp] theorem airTick_unitId (s : State) : (airTick s).control.unitId = s.control.unitId := by
  simp [airTick, airTickInOrder_control]

@[simp] theorem settleClash_unitId (u : UnitId) (s : State) :
    (settleClash u s).control.unitId = s.control.unitId := by
  unfold settleClash
  split
  · split <;> simp
  · split
    · split <;> simp
    · rfl

@[simp] theorem clashPath_unitId (f : AirFrame) (s : State) :
    (clashPath f s).control.unitId = s.control.unitId := by
  unfold clashPath
  split
  case h_1 | h_2 => split <;> simp
  all_goals rfl

@[simp] theorem adoptOffer_unitId (f : AirFrame) (s : State) :
    (adoptOffer f s).control.unitId = s.control.unitId := by
  unfold adoptOffer
  split
  · simp
  · rfl

@[simp] theorem judgeFrame_unitId (s : State) : (judgeFrame s).control.unitId = s.control.unitId := by
  rcases judgeFrame_cases s with e | ⟨_, e⟩ | ⟨f, _, _, ⟨_, _, e⟩ | ⟨_, _, _, e⟩ | ⟨_, _, _, e⟩⟩ <;> rw [e] <;> simp

@[simp] theorem blockEvent_unitId (adi : List Bool) (s : State) :
    (blockEvent adi s).control.unitId = s.control.unitId := by
  simp [blockEvent]

/-- Power-on builds Station Control anew around the identifier it had (R37). -/
@[simp] theorem powerOn_unitId (s : State) : (powerOn s).control.unitId = s.control.unitId := rfl

@[simp] theorem leavePowerOn_unitId (g : Settings) (s : State) :
    (leavePowerOn g s).control.unitId = s.control.unitId := rfl

@[simp] theorem loadTag_unitId (tag : Tag) (s : State) : (loadTag tag s).control.unitId = s.control.unitId := by
  unfold loadTag
  split <;> simp

/-- Of the events that reach Station Control, none writes the identifier (R37). -/
theorem exec_unitId {c : Instr} {s t : State} (he : exec c s = .next t) : t.control.unitId = s.control.unitId := by
  have hf := exec_leavesAllBut c he
  cases c with
  | resetnLow => rw [execResetnLow_cases he, powerOn_unitId]
  | startUpReadComplete smi =>
    obtain rfl | ⟨-, ht⟩ := execStartUpReadComplete_cases he
    · rfl
    · rw [ht, loadTag_unitId, leavePowerOn_unitId]
  | frameArrival =>
    obtain ⟨-, rfl⟩ | ⟨-, -, rfl⟩ | ⟨-, -, rfl⟩ := execFrameArrival_cases he <;> simp
  | airTick =>
    obtain ⟨-, rfl⟩ | ⟨-, rfl⟩ := execAirTick_cases he <;> simp
  | listeningPeriodExpiry =>
    obtain rfl | ⟨-, -, rfl⟩ := execListeningPeriodExpiry_cases he <;> simp
  | clashWaitExpiry =>
    obtain rfl | ⟨-, -, rfl⟩ := execClashWaitExpiry_cases he <;> simp
  | listenOnlyRetry =>
    obtain rfl | ⟨-, -, rfl⟩ := execListenOnlyRetry_cases he <;> simp
  | windowClose =>
    obtain rfl | ⟨-, -, rfl⟩ := execWindowClose_cases he <;> simp
  | blockEvent adi =>
    obtain ⟨-, rfl⟩ | ⟨-, rfl⟩ := execBlockEvent_cases he <;> simp
  | startUp | receptionStart | blankedRxvFall | byteComplete | presenceCountExpiry | offerCountExpiry | heardTimeout
  | stale | peerLost | cbsyRise | cbsyFall | gapExpiry | transmissionEnd | queueLapse | driftWindowClose
  | computationComplete | frameMark | missedMark | tagWriteStart | writeTransactionEnd | writeTimeEnd
  | writeCompletion | portFrameEnd =>
    rw [hf.control (by simp [reaches])]

/-! ## The settings last until the next power-on (R172) -/

theorem settings_mem_reaches_iff (c : Instr) : .settings ∈ reaches c ↔ PowersOn c := by
  cases c <;> simp [reaches, PowersOn]

/-- Settles O4. -/
theorem identifierAndSettingsLast : Obligations.IdentifierAndSettingsLast := fun c _ _ he =>
  ⟨exec_unitId he, fun hp => (exec_leavesAllBut c he).settings (mt (settings_mem_reaches_iff c).1 hp)⟩

/-! ## Number choice (R41) -/

theorem freeForChoice_iff (p : Peer) :
    freeForChoice p = true ↔ p.entry.state = .free ∧ p.entry.refused = false := by
  simp [freeForChoice]

/-- The search by ascending number ends at the lowest number that passes. -/
theorem find?_finRange_eq_some {n : Nat} {p : Fin n → Bool} {m : Fin n} (hm : p m = true)
    (hlow : ∀ i < m, p i = false) : (List.finRange n).find? p = some m := by
  refine List.find?_eq_some_iff_getElem.2 ⟨hm, m, by simp, by simp, fun j hj => ?_⟩
  simp [hlow ⟨j, by omega⟩ hj]

theorem numberChoice_preferred {s : State} (h : freeForChoice (peerAt s s.settings.preferred) = true) :
    numberChoice s = some s.settings.preferred := if_pos h

theorem numberChoice_search {s : State} (h : ¬ freeForChoice (peerAt s s.settings.preferred) = true) :
    numberChoice s = (List.finRange 8).find? fun k => freeForChoice (peerAt s k) := if_neg h

/-- Settles O31: the preferred number where it is free, else by the search. -/
theorem numberChoicePrefersTheStoredNumber : Obligations.NumberChoicePrefersTheStoredNumber := by
  intro s
  simp only [← freeForChoice_iff]
  refine ⟨numberChoice_preferred, fun m hpref hm hlow => ?_, fun hnone => ?_⟩
  · rw [numberChoice_search hpref]
    exact find?_finRange_eq_some hm fun i hi => Bool.eq_false_iff.2 (hlow i hi)
  · rw [numberChoice_search (hnone _), List.find?_eq_none]
    exact fun k _ => hnone k

/-! ## The end of the clash wait (R42, R46) -/

theorem exec_clashWaitExpiry {s : State} (hp : s.phase = .running) (hs : s.control.selfState = .clashed)
    (ht : s.control.clashWait = some 63) : exec .clashWaitExpiry s = .next (clashWaitExpires s) :=
  congrArg _ (if_pos ⟨hp, (clashWaitDue_iff s).2 ⟨hs, by simp [timerDue, ht]⟩⟩)

theorem clashWaitExpires_of_some {s : State} {n : Station} (h : s.control.number = some n) :
    clashWaitExpires s = enterActive n s := by
  rw [clashWaitExpires, h]

/-- The whole state at the entry to ACTIVE (R42). -/
theorem enterActive_eq (n : Station) (s : State) :
    enterActive n s =
      { s with
        control := { s.control with
          selfState := .active, number := some n, startTimer := none, clashWait := none, retryCount := none }
        scheduler := { s.scheduler with announce := some .presence, presenceCount := 0, offerCount := 0 }
        transmit := accessBegun s.cbsy (some n) s.transmit } := placePresence_eq _

/-- Settles O33. -/
theorem clashWaitExpiryKeepsTheNumber : Obligations.ClashWaitExpiryKeepsTheNumber := by
  intro n s hp hs hn ht
  rw [exec_clashWaitExpiry hp hs ht, clashWaitExpires_of_some hn, enterActive_eq, ← hn]

end Sys2Proof.Machine

/-! # The Peer Table at the silence limits -/

namespace Sys2Proof.Machine

/-! ## The peers by number (R55) -/

/-- The peers in the order of their numbers. -/
theorem peers_toList (s : State) : s.peers.toList = (List.finRange 8).map (peerAt s) :=
  List.ext_getElem (by simp) (by simp [peerAt])

/-- Counting peers is counting their numbers. -/
theorem length_filter_peers (P : Peer → Bool) (s : State) :
    (s.peers.toList.filter P).length = ((List.finRange 8).filter fun k => P (peerAt s k)).length := by
  rw [peers_toList, List.filter_map, List.length_map]
  rfl

theorem lostAtTick_iff (p : Peer) : lostAtTick p = true ↔ p.entry.state = .stale ∧ 499 ≤ p.entry.silence := by
  simp +contextual [lostAtTick, silenceDue_iff]

theorem any_lostAtTick_iff (s : State) :
    s.peers.toList.any lostAtTick = true ↔
      ∃ k : Station, (peerAt s k).entry.state = .stale ∧ 499 ≤ (peerAt s k).entry.silence := by
  simp [peers_toList, lostAtTick_iff]

/-! ## When a silence count reaches its limit (R59) -/

section Limits

variable {e : Entry} {st : EntryState} {limit : Nat}

theorem silenceDue_of_below (hs : e.state = st) (hl : silenceLimit st = some limit) (h : e.silence + 1 < limit) :
    silenceDue e = false :=
  Bool.eq_false_iff.2 ((not_silenceDue hl (.inr h)).resolve_left (not_not.2 hs))

theorem silenceDue_at_limit (hs : e.state = st) (hl : silenceLimit st = some limit) (h : e.silence + 1 = limit) :
    silenceDue e = true := by
  simp [silenceDue, hs, hl, h]

end Limits

/-! ## What the silence count does to a peer (R59 to R63) -/

section Silence

variable {p : Peer}

theorem silenceTick_of_free (h : p.entry.state = .free) : silenceTick p = p := by
  rw [silenceTick, h]

/-- Below its limit an entry counts one more and nothing else moves (R59). -/
theorem silenceTick_of_below (h : p.entry.state ≠ .free) (hd : silenceDue p.entry = false) :
    silenceTick p = { p with entry := oneMoreSilent p.entry } := by
  unfold silenceTick
  cases hs : p.entry.state with
  | free => exact absurd hs h
  | heard | admitted | stale => simp [hd]

/-- A HEARD or STALE entry at its limit falls FREE, and its queue and its conditions stay (R60, R63). -/
theorem silenceTick_falls (h : p.entry.state = .heard ∨ p.entry.state = .stale) (hd : silenceDue p.entry = true) :
    silenceTick p = { p with entry := freeEntry p.entry } := by
  unfold silenceTick
  rcases h with h | h <;> simp [h, hd, heardTimesOut, isLost]

/-- An ADMITTED entry at its limit goes STALE (R61). -/
theorem silenceTick_of_admitted (h : p.entry.state = .admitted) (hd : silenceDue p.entry = true) :
    silenceTick p = goesStale p := by
  simp [silenceTick, h, hd]

/-- The four things an air tick can do to a peer (R59 to R63). -/
theorem silenceTick_cases (p : Peer) :
    (p.entry.state = .free ∧ silenceTick p = p) ∨
    (p.entry.state ≠ .free ∧ silenceDue p.entry = false ∧
      silenceTick p = { p with entry := oneMoreSilent p.entry }) ∨
    (p.entry.state = .admitted ∧ silenceDue p.entry = true ∧ silenceTick p = goesStale p) ∨
    ((p.entry.state = .heard ∨ p.entry.state = .stale) ∧ silenceDue p.entry = true ∧
      silenceTick p = { p with entry := freeEntry p.entry }) := by
  cases hd : silenceDue p.entry with
  | false =>
    by_cases h : p.entry.state = .free
    · exact .inl ⟨h, silenceTick_of_free h⟩
    · exact .inr (.inl ⟨h, rfl, silenceTick_of_below h hd⟩)
  | true =>
    rcases (silenceDue_iff _).1 hd with ⟨h, -⟩ | ⟨h, -⟩ | ⟨h, -⟩
    · exact .inr (.inr (.inr ⟨.inl h, rfl, silenceTick_falls (.inl h) hd⟩))
    · exact .inr (.inr (.inl ⟨h, rfl, silenceTick_of_admitted h hd⟩))
    · exact .inr (.inr (.inr ⟨.inr h, rfl, silenceTick_falls (.inr h) hd⟩))

/-- No silence count touches a pending condition (R60, R61, R63). -/
theorem silenceTick_conditions (p : Peer) : (silenceTick p).entry.conditions = p.entry.conditions := by
  rcases silenceTick_cases p with ⟨-, e⟩ | ⟨-, -, e⟩ | ⟨-, -, e⟩ | ⟨-, -, e⟩ <;> rw [e] <;> rfl

end Silence

/-! ## The rows of one entry (R60, R61, R63) -/

theorem exec_heardTimeout {k : Station} {s : State} (hp : s.phase = .running)
    (hs : (peerAt s k).entry.state = .heard) (hd : silenceDue (peerAt s k).entry = true) :
    exec (.heardTimeout k) s = .next (updatePeer k heardTimesOut s) :=
  congrArg _ (if_pos ⟨hp, hs, hd⟩)

theorem exec_stale {k : Station} {s : State} (hp : s.phase = .running)
    (hs : (peerAt s k).entry.state = .admitted) (hd : silenceDue (peerAt s k).entry = true) :
    exec (.stale k) s = .next (updatePeer k goesStale s) :=
  congrArg _ (if_pos ⟨hp, hs, hd⟩)

theorem exec_peerLost {k : Station} {s : State} (hp : s.phase = .running)
    (hs : (peerAt s k).entry.state = .stale) (hd : silenceDue (peerAt s k).entry = true) :
    exec (.peerLost k) s = .next (setFlag .peerLost (updatePeer k isLost s)) :=
  congrArg _ (if_pos ⟨hp, hs, hd⟩)

/-- The peer that an ADMITTED entry at 250 leaves: nothing of it but its last good block stays in the queue
(R61, R76). -/
theorem goesStale_eq {p : Peer} (h : p.entry.silence = 249) :
    goesStale p =
      { entry := { p.entry with state := .stale, silence := 250 }
        queue := { p.queue with
          state := .idle, slots := [], start := none, cursor := none, concealed := 0, correction := none }
        drift := { depthSum := 0, depthCount := 0 }
        record := { blockLevel := 0, smoothed := 0, target := 0, applied := 0 } } := by
  simp [goesStale, oneMoreSilent, flushPeer, flushQueue, DriftSums.zero, InputRecord.zero, h]

/-- Settles O35: each row in the state that brings its count to the limit. -/
theorem silenceLimitsMoveTheirEntry : Obligations.SilenceLimitsMoveTheirEntry := by
  intro k s hp
  refine ⟨fun hs hn => ?_, fun hs hn => ?_, fun hs hn => ?_⟩
  · rw [exec_heardTimeout hp hs (silenceDue_at_limit hs rfl (congrArg _ hn))]
    rfl
  · rw [exec_stale hp hs (silenceDue_at_limit hs rfl (congrArg _ hn)), updatePeer, goesStale_eq hn]
  · rw [exec_peerLost hp hs (silenceDue_at_limit hs rfl (congrArg _ hn))]
    rfl

/-! ## Station Control's own moves leave the peers but for the refused marks (R41, R44, R47) -/

/-- A move of Station Control: it leaves the Peer Table or clears the refused marks, and a number it takes
is one whose entry is FREE (R41, R44, R70). -/
structure ControlMove (s t : State) : Prop where
  peer : ∀ k : Station, peerAt t k = peerAt s k ∨ peerAt t k = unrefused (peerAt s k)
  number : ∀ k : Station, t.control.number = some k → s.control.number = some k ∨ (peerAt s k).entry.state = .free

theorem numberChoice_free {s : State} {m : Station} (h : numberChoice s = some m) :
    (peerAt s m).entry.state = .free := by
  unfold numberChoice at h
  split at h
  · cases h
    exact ((freeForChoice_iff _).1 ‹_›).1
  · have hm := List.find?_some h
    exact ((freeForChoice_iff _).1 hm).1

theorem moveChoice_free {s : State} {m : Station} (h : moveChoice s = some m) : (peerAt s m).entry.state = .free := by
  have hm := List.find?_some h
  exact eq_of_beq (Bool.and_eq_true_iff.1 hm).1

section Moves

variable {s t : State}

theorem ControlMove.of_eq (hp : t.peers = s.peers) (hn : t.control.number = s.control.number) : ControlMove s t :=
  ⟨fun k => .inl (peerAt_congr hp k), fun _ hk => .inl (hn ▸ hk)⟩

theorem enterActive_controlMove {n : Station} (h : s.control.number = some n ∨ (peerAt s n).entry.state = .free) :
    ControlMove s (enterActive n s) :=
  ⟨fun k => .inl (peerAt_congr (by simp) k), fun _ hk => by
    obtain rfl : n = _ := by simpa using hk
    exact h⟩

theorem enterListenOnly_controlMove (s : State) : ControlMove s (enterListenOnly s) :=
  ⟨fun k => .inr (peerAt_enterListenOnly s k), fun _ hk => by simp at hk⟩

theorem listeningExpiry_controlMove (s : State) : ControlMove s (listeningExpiry s) := by
  cases h : numberChoice s with
  | none => exact listeningExpiry_of_none h ▸ enterListenOnly_controlMove s
  | some m => exact listeningExpiry_of_some h ▸ enterActive_controlMove (.inr (numberChoice_free h))

theorem clashWaitExpires_controlMove (s : State) : ControlMove s (clashWaitExpires s) := by
  cases h : s.control.number with
  | none => exact .of_eq (by simp) (by simp [clashWaitExpires, h])
  | some n => exact clashWaitExpires_of_some h ▸ enterActive_controlMove (.inl h)

theorem ControlMove.clearRefused (h : ControlMove s t) (hp : t.peers = s.peers) : ControlMove s (clearRefused t) :=
  ⟨fun k => .inr (by rw [peerAt_clearRefused, peerAt_congr hp]), fun k hk => h.number k (by simpa using hk)⟩

theorem retryChoice_controlMove (s : State) : ControlMove s (retryChoice s) := by
  cases h : numberChoice s with
  | none =>
    rw [retryChoice_of_none h]
    have hcount : ControlMove s { s with control := { s.control with retryCount := some 0 } } := .of_eq rfl rfl
    exact hcount.clearRefused rfl
  | some m =>
    rw [retryChoice_of_some h]
    exact (enterActive_controlMove (.inr (numberChoice_free h))).clearRefused (by simp)

theorem controlTick_controlMove (s : State) : ControlMove s (controlTick s) := by
  unfold controlTick
  split
  · split
    · exact listeningExpiry_controlMove s
    · exact .of_eq rfl rfl
  · split
    · exact clashWaitExpires_controlMove s
    · exact .of_eq rfl rfl
  · split
    · exact retryChoice_controlMove s
    · exact .of_eq rfl rfl
  all_goals exact .of_eq rfl rfl

end Moves

/-! ## The whole air tick at one peer (R59 to R63) -/

/-- A peer with its refused mark at a given value. -/
def withRefused (r : Bool) (p : Peer) : Peer := { p with entry := { p.entry with refused := r } }

/-- The silence count neither reads nor writes the refused mark. -/
theorem silenceTick_withRefused (r : Bool) (p : Peer) :
    silenceTick (withRefused r p) = withRefused r (silenceTick p) := by
  rcases silenceTick_cases p with ⟨h, e⟩ | ⟨h, hd, e⟩ | ⟨h, hd, e⟩ | ⟨h, hd, e⟩ <;> rw [e]
  · exact silenceTick_of_free h
  · exact silenceTick_of_below h hd
  · exact silenceTick_of_admitted h hd
  · exact silenceTick_falls h hd

theorem ControlMove.withRefused {s t : State} (h : ControlMove s t) (k : Station) :
    ∃ r : Bool, peerAt t k = withRefused r (peerAt s k) :=
  (h.peer k).elim (fun e => ⟨_, e⟩) fun e => ⟨_, e⟩

/-- Every peer has its silence counted, in either order; a number choice touches its refused mark at most
(R59, R70). -/
theorem peerAt_airTickInOrder (o : Bool) (s : State) (k : Station) :
    ∃ r : Bool, peerAt (airTickInOrder o s) k = withRefused r (silenceTick (peerAt s k)) := by
  have hlast : peerAt (airTickInOrder o s) k = peerAt (beforeWindow o s) k :=
    peerAt_congr (by simp [airTickInOrder_eq]) k
  have hfirst : peerAt (scheduled s) k = peerAt s k := peerAt_congr (by simp) k
  rw [hlast, ← hfirst]
  cases o with
  | true =>
    obtain ⟨r, hr⟩ := (controlTick_controlMove (scheduled s)).withRefused k
    exact ⟨r, by simp [beforeWindow, beforeControl, tableTick, hr, silenceTick_withRefused]⟩
  | false =>
    obtain ⟨r, hr⟩ := (controlTick_controlMove (tableTick (scheduled s))).withRefused k
    refine ⟨r, hr.trans ?_⟩
    simp [tableTick]

/-! ## PEER_LOST at the air tick (R63) -/

theorem pacedTransmit_peerLost (s : State) : (pacedTransmit s).flags.peerLost = s.flags.peerLost := by
  obtain e | ⟨f, u, -, -, rfl | rfl | rfl, e⟩ := pacedTransmit_cases s
  · rw [e]
  all_goals
    rw [e, placeAudio_flags]
    split <;> simp [withFlag]

theorem controlTick_peerLost (s : State) : (controlTick s).flags.peerLost = s.flags.peerLost := by
  rw [controlTick_flags]
  split <;> simp [withFlag]

/-- The table's share of the tick sets PEER_LOST where some entry is lost at it (R63). -/
theorem tableTick_peerLost (s : State) :
    (tableTick s).flags.peerLost = (s.peers.toList.any lostAtTick || s.flags.peerLost) := by
  cases h : s.peers.toList.any lostAtTick <;> simp [tableTick, setFlagIf_flags, withFlag, h]

/-- No move of Station Control changes which entries are lost at the tick. -/
theorem ControlMove.any_lostAtTick {s t : State} (h : ControlMove s t) :
    t.peers.toList.any lostAtTick = s.peers.toList.any lostAtTick := by
  have hpeer (k : Station) : lostAtTick (peerAt t k) = lostAtTick (peerAt s k) := by
    rcases h.peer k with e | e <;> rw [e]
    rfl
  simp [peers_toList, Function.comp_def, hpeer]

theorem airTickInOrder_peerLost (o : Bool) (s : State) :
    (airTickInOrder o s).flags.peerLost = (s.peers.toList.any lostAtTick || s.flags.peerLost) := by
  have hfirst : (scheduled s).flags.peerLost = s.flags.peerLost := by simp [pacedTransmit_peerLost]
  have hpeers : (scheduled s).peers = s.peers := by simp
  rw [airTickInOrder_eq]
  simp only [storeTick_frame, windowTick_frame]
  cases o with
  | true =>
    change (tableTick (controlTick (scheduled s))).flags.peerLost = _
    rw [tableTick_peerLost, (controlTick_controlMove _).any_lostAtTick, controlTick_peerLost, hpeers, hfirst]
  | false =>
    change (controlTick (tableTick (scheduled s))).flags.peerLost = _
    rw [controlTick_peerLost, tableTick_peerLost, hpeers, hfirst]

/-- Settles O37: the tick at each peer is its silence count, by the state and the count it stands at. -/
theorem airTickCountsTheSilenceOfEveryEntry : Obligations.AirTickCountsTheSilenceOfEveryEntry := by
  intro s hp
  refine ⟨_, exec_airTick hp, fun k => ?_, fun hlost => ?_, fun hnone => ?_⟩
  · obtain ⟨r, hr⟩ := peerAt_airTickInOrder (Config.choiceBeforeTimeouts s.tickDraws) (orderDrawn s) k
    have hstart : peerAt (orderDrawn s) k = peerAt s k := rfl
    simp only [hr, hstart]
    refine ⟨silenceTick_conditions _, fun h => ?_, fun h hn => ?_, fun h hn => ?_, fun h hn => ?_, fun h hn => ?_,
      fun h hn => ?_, fun h hn => ?_⟩
    · rw [silenceTick_of_free h]
      exact ⟨h, rfl, rfl⟩
    · rw [silenceTick_of_below (by simp [h]) (silenceDue_of_below h rfl (Nat.succ_lt_succ hn))]
      exact ⟨h, rfl, rfl, rfl, rfl⟩
    · rw [silenceTick_falls (.inl h) (silenceDue_at_limit h rfl (congrArg _ hn))]
      exact ⟨rfl, rfl, rfl, rfl, rfl⟩
    · rw [silenceTick_of_below (by simp [h]) (silenceDue_of_below h rfl (Nat.succ_lt_succ hn))]
      exact ⟨h, rfl, rfl, rfl, rfl⟩
    · rw [silenceTick_of_admitted h (silenceDue_at_limit h rfl (congrArg _ hn)), goesStale_eq hn]
      exact ⟨rfl, rfl, rfl, rfl, rfl, rfl, rfl, rfl⟩
    · rw [silenceTick_of_below (by simp [h]) (silenceDue_of_below h rfl (Nat.succ_lt_succ hn))]
      exact ⟨h, rfl, rfl⟩
    · rw [silenceTick_falls (.inr h) (silenceDue_at_limit h rfl (congrArg _ hn))]
      exact ⟨rfl, rfl, rfl, rfl, rfl⟩
  · rw [airTickInOrder_peerLost, Bool.or_eq_true]
    exact .inl ((any_lostAtTick_iff _).2 hlost)
  · have hno : (orderDrawn s).peers.toList.any lostAtTick = false :=
      Bool.eq_false_iff.2 (mt (any_lostAtTick_iff _).1 hnone)
    rw [airTickInOrder_peerLost, hno]
    rfl

end Sys2Proof.Machine

/-! # The Peer Table stays sound -/

namespace Sys2Proof.Machine

/-! ## What an event that accepts no frame does to an entry (R55, R60 to R63) -/

/-- The entry does not leave FREE, and stays sound. -/
structure EntryKept (d e : Entry) : Prop where
  free : d.state = .free → e.state = .free
  sound : EntrySound d → EntrySound e

section Entries

variable {p : Peer}

theorem EntryKept.refl (e : Entry) : EntryKept e e := ⟨id, id⟩

theorem EntryKept.trans {c d e : Entry} (h : EntryKept c d) (g : EntryKept d e) : EntryKept c e :=
  ⟨g.free ∘ h.free, g.sound ∘ h.sound⟩

theorem EntryKept.conditions (e : Entry) (c : Conditions) : EntryKept e { e with conditions := c } := ⟨id, id⟩

theorem EntryKept.unrefused (p : Peer) : EntryKept p.entry (unrefused p).entry :=
  ⟨id, fun ⟨hfree, hheard, hadmitted, hstale, _⟩ => ⟨hfree, hheard, hadmitted, hstale, nofun⟩⟩

theorem EntryKept.powerOn (e : Entry) : EntryKept e Entry.powerOn :=
  ⟨fun _ => rfl, fun _ => by simp [EntrySound, Entry.powerOn]⟩

theorem freeEntry_kept (e : Entry) : EntryKept e (freeEntry e) :=
  ⟨fun _ => rfl, fun _ => by simp [EntrySound, freeEntry]⟩

theorem silenceDue_eq_false_iff (e : Entry) :
    silenceDue e = false ↔ (e.state = .heard → e.silence < 63) ∧ (e.state = .admitted → e.silence < 249) ∧
      (e.state = .stale → e.silence < 499) := by
  unfold silenceDue silenceLimit
  cases e.state <;> simp

theorem oneMoreSilent_kept {e : Entry} (h : e.state ≠ .free) (hd : silenceDue e = false) :
    EntryKept e (oneMoreSilent e) := by
  obtain ⟨hheard, hadmitted, hstale⟩ := (silenceDue_eq_false_iff e).1 hd
  refine ⟨id, fun ⟨_, heard, admitted, stale, refused⟩ =>
    ⟨fun hf => absurd hf h, fun hs => ?_, fun hs => ?_, fun hs => ?_, refused⟩⟩
  · obtain ⟨hone, htwo, -⟩ := heard hs
    exact ⟨hone, htwo, Nat.succ_lt_succ (hheard hs)⟩
  · exact ⟨(admitted hs).1, Nat.succ_lt_succ (hadmitted hs)⟩
  · obtain ⟨hthree, hlow, -⟩ := stale hs
    exact ⟨hthree, Nat.le_succ_of_le hlow, Nat.succ_lt_succ (hstale hs)⟩

/-- An ADMITTED entry that goes STALE stands at 250 exactly (R61). -/
theorem goesStale_kept (h : p.entry.state = .admitted) (hd : silenceDue p.entry = true) :
    EntryKept p.entry (goesStale p).entry := by
  have hlimit : 249 ≤ p.entry.silence := by simpa [silenceDue_iff, h] using hd
  refine ⟨fun hf => by simp [h] at hf, fun ⟨_, _, admitted, _, refused⟩ => ?_⟩
  obtain ⟨hthree, hbelow⟩ := admitted h
  rw [goesStale_eq (by omega)]
  exact ⟨nofun, nofun, nofun, fun _ => ⟨hthree, by simp⟩, fun hr => absurd (refused hr) (by simp [h])⟩

theorem silenceTick_kept (p : Peer) : EntryKept p.entry (silenceTick p).entry := by
  rcases silenceTick_cases p with ⟨-, e⟩ | ⟨h, hd, e⟩ | ⟨h, hd, e⟩ | ⟨-, -, e⟩ <;> rw [e]
  · exact .refl _
  · exact oneMoreSilent_kept h hd
  · exact goesStale_kept h hd
  · exact freeEntry_kept _

end Entries

/-! ## What an event that accepts no frame does to the table (R70) -/

/-- No entry leaves FREE or loses its soundness, and a number that is taken is one whose entry is FREE. -/
structure TableKept (s t : State) : Prop where
  entry : ∀ k : Station, EntryKept (peerAt s k).entry (peerAt t k).entry
  number : ∀ k : Station, t.control.number = some k → s.control.number = some k ∨ (peerAt t k).entry.state = .free

/-- The numbers of the entries that are not FREE (R70). -/
def inUse (s : State) : Finset Station := {k | (peerAt s k).entry.state ≠ .free}

theorem mem_inUse {s : State} {k : Station} : k ∈ inUse s ↔ (peerAt s k).entry.state ≠ .free := by simp [inUse]

theorem entriesInUse_eq_card (s : State) : entriesInUse s.peers = (inUse s).card := by
  rw [entriesInUse, length_filter_peers]
  exact congrArg List.length (List.filter_congr fun k _ => by simp [bne, beq_eq_decide])

section Moves

variable {s t u : State}

theorem TableKept.trans (h : TableKept s u) (g : TableKept u t) : TableKept s t :=
  ⟨fun k => (h.entry k).trans (g.entry k), fun k hk =>
    (g.number k hk).elim (fun hu => (h.number k hu).imp_right (g.entry k).free) .inr⟩

theorem TableKept.entriesSound (h : TableKept s t) (hs : EntriesSound s) : EntriesSound t :=
  fun k => (h.entry k).sound (hs k)

theorem TableKept.inUse_subset (h : TableKept s t) : inUse t ⊆ inUse s := fun k hk =>
  mem_inUse.2 fun hf => mem_inUse.1 hk ((h.entry k).free hf)

theorem TableKept.tableSound (h : TableKept s t) (hs : TableSound s) : TableSound t := by
  obtain ⟨hroom, hown⟩ := hs
  refine ⟨?_, fun k hk => (h.number k hk).elim (fun hn => (h.entry k).free (hown k hn)) id⟩
  rw [entriesInUse_eq_card] at hroom ⊢
  exact (Finset.card_le_card h.inUse_subset).trans hroom

/-- Entries whose conditions alone differ, with the number kept. -/
theorem TableKept.of_conditions
    (he : ∀ k : Station, ∃ c : Conditions, (peerAt t k).entry = { (peerAt s k).entry with conditions := c })
    (hn : t.control.number = s.control.number) : TableKept s t :=
  ⟨fun k => by
    obtain ⟨c, hc⟩ := he k
    exact hc ▸ EntryKept.conditions _ c, fun _ hk => .inl (hn ▸ hk)⟩

theorem TableKept.of_eq (hp : t.peers = s.peers) (hn : t.control.number = s.control.number) : TableKept s t :=
  .of_conditions (fun k => ⟨_, congrArg Peer.entry (peerAt_congr hp k)⟩) hn

/-- A station left without a number has no entry to keep FREE. -/
theorem TableKept.of_no_number (he : ∀ k : Station, EntryKept (peerAt s k).entry (peerAt t k).entry)
    (hn : t.control.number = none) : TableKept s t :=
  ⟨he, fun _ hk => by simp [hn] at hk⟩

theorem TableKept.of_same_peers (hp : t.peers = s.peers)
    (hn : t.control.number = s.control.number ∨ t.control.number = none) : TableKept s t :=
  hn.elim (.of_eq hp) (.of_no_number fun k => by
    rw [peerAt_congr hp k]
    exact .refl _)

theorem ControlMove.tableKept (h : ControlMove s t) : TableKept s t := by
  have hentry (k : Station) : EntryKept (peerAt s k).entry (peerAt t k).entry := by
    rcases h.peer k with e | e <;> rw [e]
    · exact .refl _
    · exact .unrefused _
  exact ⟨hentry, fun k hk => (h.number k hk).imp_right (hentry k).free⟩

theorem updatePeer_tableKept {k : Station} {f : Peer → Peer}
    (h : EntryKept (peerAt s k).entry (f (peerAt s k)).entry) : TableKept s (updatePeer k f s) := by
  refine ⟨fun j => ?_, fun j hj => .inl (by simpa using hj)⟩
  rw [peerAt_updatePeer]
  split
  · rename_i hjk
    exact hjk ▸ h
  · exact .refl _

theorem TableKept.setFlag (h : TableKept s t) (f : Flag) : TableKept s (setFlag f t) := h.trans (.of_eq rfl rfl)

theorem mapPeers_tableKept {f : Peer → Peer} (h : ∀ p : Peer, EntryKept p.entry (f p).entry) :
    TableKept s (mapPeers f s) :=
  ⟨fun k => by simpa using h (peerAt s k), fun k hk => .inl (by simpa using hk)⟩

end Moves

/-! ## The events that accept no frame -/

section Events

variable {s : State}

theorem tableTick_tableKept (s : State) : TableKept s (tableTick s) :=
  (mapPeers_tableKept silenceTick_kept).trans (.of_eq (by simp [tableTick]) (by simp))

theorem windowTick_number (s : State) : (windowTick s).control.number = s.control.number := by
  rw [windowTick_control]

theorem airTickInOrder_tableKept (o : Bool) (s : State) : TableKept s (airTickInOrder o s) := by
  have hfirst : TableKept s (scheduled s) := .of_eq (by simp) (by simp)
  have hlast (u : State) : TableKept u (storeTick (windowTick u)) := .of_eq (by simp) (by simp [windowTick_number])
  rw [airTickInOrder_eq]
  refine .trans ?_ (hlast _)
  cases o with
  | true => exact (hfirst.trans (controlTick_controlMove _).tableKept).trans (tableTick_tableKept _)
  | false => exact (hfirst.trans (tableTick_tableKept _)).trans (controlTick_controlMove _).tableKept

theorem airTick_tableKept (s : State) : TableKept s (airTick s) := by
  have hdrawn : TableKept s (orderDrawn s) := .of_eq rfl rfl
  exact hdrawn.trans (airTickInOrder_tableKept (Config.choiceBeforeTimeouts s.tickDraws) _)

theorem forget_tableKept (s : State) : TableKept s (forget s) :=
  .of_no_number (fun k => peerAt_forget s k ▸ EntryKept.powerOn _) (by simp [StationControl.powerOn])

theorem openPairing_tableKept (s : State) : TableKept s (openPairing s) := by
  refine .of_same_peers (by simp) ?_
  rw [openPairing_eq]
  split
  · exact .inr (by simp)
  · exact .inl rfl

theorem takeControl_tableKept (w : Option (BitVec 16)) (s : State) : TableKept s (takeControl w s) :=
  takeControl_induction (P := TableKept s) w (.of_eq rfl rfl) (fun _ h => h.trans (.of_eq rfl rfl))
    (fun _ h => h.trans (forget_tableKept _)) (fun _ h => h.trans (openPairing_tableKept _))
    (fun _ _ h => h.trans (.of_eq rfl rfl))

/-- The takes of a block event leave every field of an entry but its conditions (R84 to R91). -/
theorem peerAt_afterTakes_entry (s : State) (k : Station) :
    ∃ c : Conditions, (peerAt (afterTakes s) k).entry = { (peerAt s k).entry with conditions := c } := by
  have htaken : (peerAt (afterTakes s) k).entry = (takePeer s.settings (peerAt s k)).entry := by
    have hlevelled := (levelPeers_frame s.settings (takeAll s) k).1
    simpa [afterTakes, peerAt, takenAndLevelled, takeAll] using hlevelled
  exact htaken ▸ takePeer_entry s.settings (peerAt s k)

theorem reportStatus_tableKept (s : State) : TableKept s (reportStatus s) := by
  unfold reportStatus
  split
  · exact (updatePeer_tableKept (f := emptyConditions) (.conditions _ _)).trans (.of_eq rfl rfl)
  · exact .of_eq rfl rfl

theorem mixAndReport_tableKept (b : Block) (s : State) : TableKept s (mixAndReport b s) := by
  have htaken : TableKept s (afterTakes s) := .of_conditions (peerAt_afterTakes_entry s) (by simp)
  refine htaken.trans (.trans ?_ (reportStatus_tableKept _))
  exact .of_eq rfl rfl

theorem blockEvent_tableKept (adi : List Bool) (s : State) : TableKept s (blockEvent adi s) :=
  have hhanded (b : Block) (u : State) : TableKept u (captureHandover b u) := .of_eq (by simp) (by simp)
  ((takeControl_tableKept _ s).trans (hhanded _ _)).trans (mixAndReport_tableKept _ _)

/-- A lapse and a window close leave every field of the entry but its conditions (R91, R104). -/
theorem lapsePeer_kept (p : Peer) : EntryKept p.entry (lapsePeer p).entry := by
  unfold lapsePeer
  split
  · exact .refl _
  · unfold concealPeer
    rcases lapseIfDue_cases (withConditions (concealCondition (depthSampled p).queue _)
      { depthSampled p with queue := queueConcealed _ (depthSampled p).queue }) with ⟨_, e⟩ | ⟨_, e⟩ <;>
    · rw [e]
      exact .conditions _ _

theorem closeAtTake_entry (g : Settings) (p : Peer) : (closeAtTake g p).entry = p.entry := by
  unfold closeAtTake
  split <;> rfl

/-- Lock flushes queues and no entry (R99, R156). -/
theorem lockPort_tableKept (s : State) : TableKept s (lockPort s) :=
  .of_conditions (fun k => ⟨_, by simp [lockPort]; rfl⟩) (by simp)

theorem markUnlocked_tableKept (n : Nat) (s : State) : TableKept s (markUnlocked n s) := by
  unfold markUnlocked
  split
  · exact .of_eq rfl rfl
  · split
    · split
      · exact lockPort_tableKept s
      · exact .of_eq rfl rfl
    · exact .of_eq rfl rfl

theorem powerOn_tableKept (s : State) : TableKept s (powerOn s) :=
  .of_no_number (fun k => (peerAt_congr (s := State.reset) (t := powerOn s) rfl k).trans (peerAt_reset k) ▸
    EntryKept.powerOn _) rfl

theorem leavePowerOn_tableKept (g : Settings) (s : State) : TableKept s (leavePowerOn g s) :=
  (powerOn_tableKept s).trans (.of_eq (t := leavePowerOn g s) rfl rfl)

theorem loadTag_tableKept (tag : Tag) (s : State) : TableKept s (loadTag tag s) := by
  unfold loadTag
  split
  · exact .of_eq rfl rfl
  · exact .of_same_peers (by simp) (.inr (by simp))

/-! ## Reception but for an accepted frame (R43 to R45, R51) -/

theorem settleClash_controlMove (u : UnitId) (s : State) : ControlMove s (settleClash u s) := by
  unfold settleClash
  split
  · split
    · exact enterActive_controlMove (.inl ‹_›)
    · exact .of_eq rfl rfl
  · split
    · split
      · exact enterActive_controlMove (.inr (moveChoice_free ‹_›))
      · exact enterListenOnly_controlMove s
    · exact .of_eq rfl rfl

theorem clashPath_controlMove (f : AirFrame) (s : State) : ControlMove s (clashPath f s) := by
  unfold clashPath
  split
  · split
    · exact .of_eq rfl rfl
    · exact .of_eq (by simp) (by simp)
  · split
    · exact settleClash_controlMove _ s
    · exact .of_eq rfl rfl
  all_goals exact .of_eq rfl rfl

theorem adoptOffer_tableKept (f : AirFrame) (s : State) : TableKept s (adoptOffer f s) := by
  refine .of_same_peers (by simp) ?_
  unfold adoptOffer
  split
  · exact .inr (by simp)
  · exact .inl rfl

end Events

/-! ## The source of a migration (R67, R68) -/

section Migration

variable {s : State} {f : AirFrame} {j : Station}

theorem leastSilent_mem {peers : Vector Peer 8} {l : List Station} {b : Station} (h : leastSilent peers l = some b) :
    b ∈ l := by
  induction l generalizing b with
  | nil => simp [leastSilent] at h
  | cons a rest ih =>
    unfold leastSilent at h
    split at h
    · simp_all
    · rename_i c hc
      have := ih hc
      split at h <;> simp_all

/-- Of the entries listed by ascending number, the least silent, and among equals the lowest (R68). -/
theorem leastSilent_eq_some {peers : Vector Peer 8} {l : List Station} (hl : l.Pairwise (· < ·)) (hj : j ∈ l)
    (hleast : ∀ i ∈ l, peers[j].entry.silence < peers[i].entry.silence ∨
      (peers[j].entry.silence = peers[i].entry.silence ∧ j ≤ i)) : leastSilent peers l = some j := by
  induction l with
  | nil => simp at hj
  | cons a rest ih =>
    obtain ⟨hfirst, hrest⟩ := List.pairwise_cons.1 hl
    unfold leastSilent
    rcases List.mem_cons.1 hj with rfl | hj
    · split
      · rfl
      · rename_i b hb
        have := hleast b (List.mem_cons_of_mem _ (leastSilent_mem hb))
        exact if_neg (by omega)
    · rw [ih hrest hj fun i hi => hleast i (List.mem_cons_of_mem _ hi)]
      exact if_pos ((hleast a List.mem_cons_self).resolve_right fun ⟨_, hja⟩ => absurd (hfirst j hj) (not_lt.2 hja))

theorem mem_holdersOf (s : State) (m : Station) (u : UnitId) (j : Station) :
    j ∈ holdersOf s.peers m u ↔ j ≠ m ∧ (peerAt s j).entry.unitId = some u := by
  simp [holdersOf, peerAt]

theorem holdersOf_ascending (peers : Vector Peer 8) (m : Station) (u : UnitId) :
    (holdersOf peers m u).Pairwise (· < ·) :=
  (List.pairwise_lt_finRange 8).filter _

theorem migrationSource_mem {m : Station} {u : UnitId} (h : migrationSource s.peers m u = some j) :
    j ≠ m ∧ (peerAt s j).entry.unitId = some u := by
  unfold migrationSource at h
  split at h
  · exact (mem_holdersOf s m u j).1 (leastSilent_mem h)
  · cases h

theorem migrationSource_of_movesRecordFrom (h : MovesRecordFrom j f s) :
    migrationSource s.peers f.sender f.unitId = some j := by
  obtain ⟨-, hstate, hown, hj, hu, hleast⟩ := h
  unfold migrationSource
  rw [if_pos ⟨hown, (mayReceive_iff _).2 hstate⟩]
  refine leastSilent_eq_some (holdersOf_ascending _ _ _) ((mem_holdersOf _ _ _ _).2 ⟨hj, hu⟩) fun i hi => ?_
  obtain ⟨hi, hiu⟩ := (mem_holdersOf _ _ _ _).1 hi
  exact hleast i hi hiu

/-! ## A record moved (R67) -/

/-- The record of entry `j` stands at entry `m`, and entry `j` is FREE (R67). -/
def recordMoved (j m : Station) (s : State) : State :=
  setPeer j (migratedFrom (peerAt s j)) (setPeer m (migratedTo (peerAt s j) (peerAt s m)) s)

/-- The migration test moves one record to the sender's entry, or none (R67). -/
theorem migrationTest_cases (f : AirFrame) (s : State) :
    migrationTest f s = s ∨ ∃ j : Station, j ≠ f.sender ∧ migrationTest f s = recordMoved j f.sender s := by
  unfold migrationTest
  split
  · split
    · rename_i j hj
      exact .inr ⟨j, (migrationSource_mem hj).1, rfl⟩
    · exact .inl rfl
  all_goals exact .inl rfl

theorem migrationTest_of_movesRecordFrom (h : MovesRecordFrom j f s) :
    migrationTest f s = recordMoved j f.sender s := by
  unfold migrationTest
  rw [h.1, migrationSource_of_movesRecordFrom h]
  rfl

theorem peerAt_recordMoved (j m k : Station) (s : State) :
    peerAt (recordMoved j m s) k =
      if k = j then migratedFrom (peerAt s j)
      else if k = m then migratedTo (peerAt s j) (peerAt s m) else peerAt s k := by
  simp [recordMoved, peerAt_setPeer]

end Migration

/-! ## An accepted frame keeps the table (R56 to R70) -/

section Accepted

variable {s : State} {p : Peer}

theorem afterLiveness_ne_free (c : AudioClass) (p : Peer) : (afterLiveness c p).entry.state ≠ .free := by
  unfold afterLiveness
  cases h : p.entry.state with
  | free => simp
  | heard =>
    simp only []
    split <;> simp [afterClass_entry, admittedWith, h]
  | admitted => simp [afterClass_entry, h]
  | stale => simp [admittedWith]

/-- Liveness starts the silence count again, and admits at the third frame (R57, R58, R61, R62). -/
theorem afterLiveness_sound (c : AudioClass) (h : EntrySound p.entry) : EntrySound (afterLiveness c p).entry := by
  obtain ⟨-, heard, admitted, stale, refused⟩ := h
  unfold afterLiveness
  cases hs : p.entry.state with
  | free => simp [EntrySound]
  | heard =>
    simp only []
    split <;> simp_all [EntrySound, afterClass_entry, admittedWith]
  | admitted => simp_all [EntrySound, afterClass_entry]
  | stale => simp_all [EntrySound, afterClass_entry, admittedWith]

theorem entryAfter_sound (depth : Nat) (f : AirFrame) (h : EntrySound p.entry) :
    EntrySound (entryAfter depth f p).entry := by
  have hlive := afterLiveness_sound f.cls h
  unfold entryAfter
  split
  · exact hlive
  · exact hlive
  · obtain ⟨-, hrest⟩ := hlive
    exact ⟨fun hf => absurd hf (afterLiveness_ne_free f.cls p), hrest⟩
  · obtain ⟨c, hc⟩ := offerBlock_entry depth _ (afterLiveness f.cls p)
    rw [hc]
    exact hlive

/-- At most one entry comes into use where one peer is replaced. -/
theorem inUse_setPeer_subset (m : Station) (p : Peer) (s : State) : inUse (setPeer m p s) ⊆ insert m (inUse s) := by
  intro k hk
  by_cases h : k = m
  · simp [h]
  · simpa [mem_inUse, peerAt_setPeer_ne h, h] using hk

/-- A record that moves leaves one entry for another, so that no more are in use (R67). -/
theorem card_inUse_recordMoved (j m : Station) (s : State) : (inUse (recordMoved j m s)).card ≤ (inUse s).card := by
  by_cases hj : (peerAt s j).entry.state = .free
  · refine Finset.card_le_card fun k hk => ?_
    rw [mem_inUse, peerAt_recordMoved] at hk
    split at hk
    · exact absurd rfl hk
    · split at hk
      · exact absurd hj hk
      · exact mem_inUse.2 hk
  · have hmoved : inUse (recordMoved j m s) ⊆ insert m ((inUse s).erase j) := fun k hk => by
      rw [mem_inUse, peerAt_recordMoved] at hk
      split at hk
      · exact absurd rfl hk
      · split at hk
        · exact Finset.mem_insert.2 (.inl ‹_›)
        · exact Finset.mem_insert_of_mem (Finset.mem_erase.2 ⟨‹_›, mem_inUse.2 hk⟩)
    calc (inUse (recordMoved j m s)).card
      _ ≤ (insert m ((inUse s).erase j)).card := Finset.card_le_card hmoved
      _ ≤ ((inUse s).erase j).card + 1 := Finset.card_insert_le _ _
      _ = (inUse s).card := Finset.card_erase_add_one (mem_inUse.2 hj)

/-- What a frame finds at its entry after the migration test: all is as sound as it was (R67). -/
theorem recordMoved_entriesSound (j m : Station) (h : EntriesSound s) : EntriesSound (recordMoved j m s) := by
  intro k
  rw [peerAt_recordMoved]
  split
  · simp [EntrySound, migratedFrom, freeEntry]
  · split
    · obtain ⟨hfree, hheard, hadmitted, hstale, -⟩ := h j
      exact ⟨hfree, hheard, hadmitted, hstale, nofun⟩
    · exact h k

/-- The number of a station whose own number is not the frame's keeps its FREE entry through a migration. -/
theorem recordMoved_tableSound {j m : Station} (h : TableSound s) (hm : s.control.number ≠ some m) :
    TableSound (recordMoved j m s) := by
  obtain ⟨hroom, hown⟩ := h
  rw [entriesInUse_eq_card] at hroom
  refine ⟨?_, fun k hk => ?_⟩
  · rw [entriesInUse_eq_card]
    exact (card_inUse_recordMoved j m s).trans hroom
  · have hkm : k ≠ m := fun e => hm (e ▸ hk)
    rw [peerAt_recordMoved, if_neg hkm]
    split
    · rfl
    · exact hown k hk

theorem migrationTest_entriesSound (f : AirFrame) (h : EntriesSound s) : EntriesSound (migrationTest f s) := by
  obtain e | ⟨j, -, e⟩ := migrationTest_cases f s <;> rw [e]
  · exact h
  · exact recordMoved_entriesSound _ _ h

theorem migrationTest_tableSound {f : AirFrame} (h : TableSound s) (hm : s.control.number ≠ some f.sender) :
    TableSound (migrationTest f s) := by
  obtain e | ⟨j, -, e⟩ := migrationTest_cases f s <;> rw [e]
  · exact h
  · exact recordMoved_tableSound h hm

/-- A refused frame marks its FREE entry and takes no place (R70). -/
theorem refuseFrame_tableKept {m : Station} (h : (peerAt s m).entry.state = .free) :
    TableKept s (refuseFrame m s) := by
  refine (updatePeer_tableKept ⟨id, fun hs => ?_⟩).setFlag .full
  obtain ⟨hfree, hheard, hadmitted, hstale, -⟩ := hs
  exact ⟨hfree, hheard, hadmitted, hstale, fun _ => h⟩

/-- A peer replaced where the entry was in use, or with a place to spare, leaves at most seven in use (R70). -/
theorem setPeer_tableSound {m : Station} (h : TableSound s) (hm : s.control.number ≠ some m)
    (hroom : (peerAt s m).entry.state ≠ .free ∨ entriesInUse s.peers < 7) (p : Peer) :
    TableSound (setPeer m p s) := by
  obtain ⟨hseven, hown⟩ := h
  rw [entriesInUse_eq_card] at hseven hroom
  refine ⟨?_, fun k hk => ?_⟩
  · rw [entriesInUse_eq_card]
    refine (Finset.card_le_card (inUse_setPeer_subset m p s)).trans ?_
    rcases hroom with hused | hspare
    · rwa [Finset.insert_eq_of_mem (mem_inUse.2 hused)]
    · exact (Finset.card_insert_le _ _).trans hspare
  · have hkm : k ≠ m := fun e => hm (e ▸ hk)
    rw [peerAt_setPeer_ne hkm]
    exact hown k hk

/-- A frame refused at capacity marks a FREE entry, and one that is not takes the last free place at most (R70). -/
theorem acceptFrame_cases (f : AirFrame) (s : State) :
    ((peerAt (migrationTest f s) f.sender).entry.state = .free ∧
      acceptFrame f s = refuseFrame f.sender (migrationTest f s)) ∨
    (((peerAt (migrationTest f s) f.sender).entry.state ≠ .free ∨ entriesInUse (migrationTest f s).peers < 7) ∧
      acceptFrame f s =
        setPeer f.sender (entryAfter s.settings.targetDepth f (peerAt (migrationTest f s) f.sender))
          (migrationTest f s)) := by
  unfold acceptFrame
  simp only [atCapacity_iff, updatePeer, acceptAtEntry_eq]
  split
  · rename_i hc
    exact .inl ⟨hc.1, rfl⟩
  · rename_i hc
    exact .inr ⟨by rwa [← Nat.not_le, ← not_and_or], rfl⟩

theorem acceptFrame_entriesSound (f : AirFrame) (h : EntriesSound s) : EntriesSound (acceptFrame f s) := by
  have hmoved := migrationTest_entriesSound f h
  obtain ⟨hfree, e⟩ | ⟨-, e⟩ := acceptFrame_cases f s <;> rw [e]
  · exact (refuseFrame_tableKept hfree).entriesSound hmoved
  · intro k
    rw [peerAt_setPeer]
    split
    · exact entryAfter_sound _ f (hmoved _)
    · exact hmoved k

theorem acceptFrame_tableSound {f : AirFrame} (h : TableSound s) (hm : s.control.number ≠ some f.sender) :
    TableSound (acceptFrame f s) := by
  have hmoved := migrationTest_tableSound h hm
  obtain ⟨hfree, e⟩ | ⟨hroom, e⟩ := acceptFrame_cases f s <;> rw [e]
  · exact (refuseFrame_tableKept hfree).tableSound hmoved
  · exact setPeer_tableSound hmoved (by simpa using hm) hroom _

end Accepted

/-! ## Every event -/

/-- A frame judged keeps the table unless it is accepted, and then its sender's is not the own number (R15 to
R18). -/
theorem judgeFrame_tableKept_or_accepts (s : State) :
    TableKept s (judgeFrame s) ∨
      ∃ f : AirFrame, s.control.number ≠ some f.sender ∧ judgeFrame s = acceptFrame f s := by
  have stays : TableKept s s := .of_eq rfl rfl
  obtain e | ⟨_, e⟩ | ⟨f, -, -, ⟨-, -, e⟩ | ⟨-, -, -, e⟩ | ⟨-, -, hn, e⟩⟩ := judgeFrame_cases s
  · exact .inl (e.symm ▸ stays)
  · exact .inl (e.symm ▸ stays.setFlag _)
  · exact .inl (e.symm ▸ adoptOffer_tableKept f s)
  · exact .inl (e.symm ▸ (clashPath_controlMove f s).tableKept)
  · exact .inr ⟨f, hn, e⟩

/-- An event keeps the table, or it is the arrival of a frame accepted at an entry that is not the own number's
(R18, R56). -/
theorem exec_tableKept_or_accepts (c : Instr) {s t : State} (he : exec c s = .next t) :
    TableKept s t ∨ ∃ f : AirFrame, s.control.number ≠ some f.sender ∧ t = acceptFrame f (endReception s) := by
  have hf := exec_leavesAllBut c he
  have stays : TableKept s s := .of_eq rfl rfl
  cases c with
  | frameArrival =>
    obtain ⟨-, rfl⟩ | ⟨-, -, rfl⟩ | ⟨-, -, rfl⟩ := execFrameArrival_cases he
    · exact .inl stays
    · exact .inl (.of_eq rfl rfl)
    · have hended : TableKept s (endReception s) := .of_eq rfl rfl
      exact (judgeFrame_tableKept_or_accepts (endReception s)).imp_left hended.trans
  | resetnLow => exact .inl (execResetnLow_cases he ▸ powerOn_tableKept s)
  | startUpReadComplete smi =>
    obtain rfl | ⟨-, ht⟩ := execStartUpReadComplete_cases he
    · exact .inl stays
    · exact .inl (ht ▸ (leavePowerOn_tableKept _ s).trans (loadTag_tableKept _ _))
  | airTick =>
    obtain ⟨-, rfl⟩ | ⟨-, rfl⟩ := execAirTick_cases he
    · exact .inl stays
    · exact .inl (airTick_tableKept s)
  | listeningPeriodExpiry =>
    obtain rfl | ⟨-, -, rfl⟩ := execListeningPeriodExpiry_cases he
    · exact .inl stays
    · exact .inl (listeningExpiry_controlMove s).tableKept
  | clashWaitExpiry =>
    obtain rfl | ⟨-, -, rfl⟩ := execClashWaitExpiry_cases he
    · exact .inl stays
    · exact .inl (clashWaitExpires_controlMove s).tableKept
  | listenOnlyRetry =>
    obtain rfl | ⟨-, -, rfl⟩ := execListenOnlyRetry_cases he
    · exact .inl stays
    · exact .inl (retryChoice_controlMove s).tableKept
  | windowClose =>
    obtain rfl | ⟨-, -, rfl⟩ := execWindowClose_cases he
    · exact .inl stays
    · exact .inl (.of_eq (by simp) (by simp))
  | heardTimeout k =>
    obtain rfl | ⟨-, -, -, rfl⟩ := execHeardTimeout_cases he
    · exact .inl stays
    · exact .inl (updatePeer_tableKept (freeEntry_kept _))
  | stale k =>
    obtain rfl | ⟨-, hs, hd, rfl⟩ := execStale_cases he
    · exact .inl stays
    · exact .inl (updatePeer_tableKept (goesStale_kept hs hd))
  | peerLost k =>
    obtain rfl | ⟨-, -, -, rfl⟩ := execPeerLost_cases he
    · exact .inl stays
    · exact .inl ((updatePeer_tableKept (freeEntry_kept _)).setFlag _)
  | blockEvent adi =>
    obtain ⟨-, rfl⟩ | ⟨-, rfl⟩ := execBlockEvent_cases he
    · exact .inl stays
    · exact .inl (blockEvent_tableKept adi s)
  | queueLapse k =>
    obtain rfl | ⟨-, -, rfl⟩ := execQueueLapse_cases he
    · exact .inl stays
    · exact .inl ((updatePeer_tableKept (lapsePeer_kept _)).setFlag _)
  | driftWindowClose k =>
    obtain rfl | ⟨-, -, rfl⟩ := execDriftWindowClose_cases he
    · exact .inl stays
    · exact .inl (updatePeer_tableKept ((closeAtTake_entry _ _).symm ▸ EntryKept.refl _))
  | frameMark n =>
    obtain rfl | ⟨-, -, rfl⟩ | ⟨-, -, rfl⟩ := execFrameMark_cases he
    · exact .inl stays
    · exact .inl (markUnlocked_tableKept n s)
    · exact .inl (.of_eq (by simp) (by simp))
  | startUp | receptionStart | blankedRxvFall | byteComplete | presenceCountExpiry | offerCountExpiry | cbsyRise
  | cbsyFall | gapExpiry | transmissionEnd | computationComplete | missedMark | tagWriteStart | writeTransactionEnd
  | writeTimeEnd | writeCompletion | portFrameEnd =>
    exact .inl (.of_eq (hf.peers (by simp [reaches])) (congrArg _ (hf.control (by simp [reaches]))))

theorem exec_tableSound (c : Instr) {s t : State} (he : exec c s = .next t) (h : TableSound s) : TableSound t := by
  obtain hk | ⟨f, hn, rfl⟩ := exec_tableKept_or_accepts c he
  · exact hk.tableSound h
  · have hended : TableSound (endReception s) := h
    exact acceptFrame_tableSound hended hn

theorem exec_entriesSound (c : Instr) {s t : State} (he : exec c s = .next t) (h : EntriesSound s) :
    EntriesSound t := by
  obtain hk | ⟨f, -, rfl⟩ := exec_tableKept_or_accepts c he
  · exact hk.entriesSound h
  · have hended : EntriesSound (endReception s) := h
    exact acceptFrame_entriesSound f hended

/-- Settles O56: every event keeps the table, but for an accepted frame, which takes a free place at most. -/
theorem stepKeepsTableSound : Obligations.StepKeepsTableSound := by
  intro s t he
  unfold step at he
  split at he
  · cases he
    exact ⟨id, id⟩
  · exact ⟨fun h => exec_tableSound _ he h, fun h => exec_entriesSound _ he h⟩

/-! ## A known unit's PRESENCE (R67, R68, R97, R128) -/

/-- Settles O20: the record moves first, so that the frame finds it at its entry, which is then in use. -/
theorem presenceCarriesTheRecordOfAKnownUnit : Obligations.PresenceCarriesTheRecordOfAKnownUnit := by
  intro f j s h hm hj
  have hmoves : MovesRecordFrom j f (endReception s) := hm
  obtain ⟨-, -, -, hjm, -, -⟩ := hm
  have hdst : peerAt (recordMoved j f.sender (endReception s)) f.sender =
      migratedTo (peerAt s j) (peerAt s f.sender) := by
    rw [peerAt_recordMoved, if_neg (Ne.symm hjm), if_pos rfl]
    rfl
  have haccept := acceptFrame_cases f (endReception s)
  rw [migrationTest_of_movesRecordFrom hmoves, hdst] at haccept
  obtain ⟨hfree, -⟩ | ⟨-, e⟩ := haccept
  · exact absurd hfree hj
  have hsrc : peerAt (acceptFrame f (endReception s)) j = migratedFrom (peerAt s j) := by
    rw [e, peerAt_setPeer_ne hjm, peerAt_recordMoved, if_pos rfl]
    rfl
  refine ⟨_, frameArrival_accepted h, fun k hkm hkj => ?_, ?_, ?_⟩
  · rw [e, peerAt_setPeer_ne hkm, peerAt_recordMoved, if_neg hkj, if_neg hkm]
    rfl
  · rw [e, peerAt_setPeer_self]
    rfl
  · rw [hsrc]
    refine ⟨rfl, rfl, rfl, rfl, rfl, rfl, rfl, rfl, rfl, rfl, rfl, rfl, rfl, rfl, ?_, ?_⟩
    · rw [e]
      rfl
    · simp [endReception]

end Sys2Proof.Machine

/-! # The status words -/

namespace Sys2Proof.Machine

/-! ## Fields side by side (R164) -/

/-- A word of two fields, the first above the second. -/
theorem toNat_append_fields {m n : Nat} (x : BitVec m) (y : BitVec n) :
    (x ++ y).toNat = x.toNat * 2 ^ n + y.toNat := by
  rw [BitVec.toNat_append, ← Nat.shiftLeft_add_eq_or_of_lt y.isLt, Nat.shiftLeft_eq]

theorem selfCode_field (st : SelfState) :
    ((selfCode st).extractLsb' 0 3).toNat =
      match st with | .unpaired => 0 | .starting => 1 | .active => 2 | .clashed => 3 | .listenOnly => 4 := by
  cases st <;> rfl

theorem shownNumber_toNat (n : Option Station) :
    (shownNumber n).toNat = match n with | none => 0 | some k => k.val := by
  cases n with
  | none => rfl
  | some k => exact Nat.mod_eq_of_lt k.isLt

theorem entryCode_toNat (st : EntryState) :
    (entryCode st).toNat = match st with | .free => 0 | .heard => 1 | .admitted => 2 | .stale => 3 := by
  cases st <;> rfl

theorem queueCode_toNat (st : QueueState) :
    (queueCode st).toNat = match st with | .idle => 0 | .priming => 1 | .playing => 2 := by
  cases st <;> rfl

theorem classBit_toNat (c : AudioClass) : (classBit c).toNat = match c with | .near => 0 | .far => 1 := by
  cases c <;> rfl

theorem selfWord_toNat (s : State) :
    (selfWord s).toNat =
      (match s.control.selfState with
        | .unpaired => 0 | .starting => 1 | .active => 2 | .clashed => 3 | .listenOnly => 4) * 512 +
      (match s.control.number with | none => 0 | some n => n.val) * 64 +
      s.control.window.isSome.toNat * 32 + (s.lap.heldWord.getLsbD 11).toNat * 16 +
      (((List.finRange 8).filter fun k => (peerAt s k).entry.state == .admitted).length % 8) * 2 +
      (s.settings.role == .gateway).toNat := by
  simp only [selfWord, toNat_append_fields, selfCode_field, shownNumber_toNat, BitVec.toNat_ofBool, BitVec.toNat_ofNat,
    admittedCount, length_filter_peers, muted, wordMute]
  omega

theorem flagsAWord_toNat (s : State) :
    (flagsAWord s).toNat = 0x1000 +
      s.flags.checkFail.toNat * 2048 + s.flags.malformed.toNat * 1024 + s.flags.foreign.toNat * 512 +
      s.flags.superseded.toNat * 256 + s.flags.underrun.toNat * 128 + s.flags.clash.toNat * 64 +
      s.flags.full.toNat * 32 + s.flags.paired.toNat * 16 + s.flags.storeFail.toNat * 8 +
      s.flags.lapLost.toNat * 4 + s.flags.peerLapse.toNat * 2 + s.flags.peerLost.toNat := by
  simp only [flagsAWord, toNat_append_fields, BitVec.toNat_ofBool, BitVec.toNat_ofNat]
  omega

theorem flagsBWord_toNat (s : State) :
    (flagsBWord s).toNat = 0x2000 + s.flags.accSat.toNat * 2048 + s.flags.outClip.toNat * 1024 +
      s.engine.lastAccSat.toNat * 512 + s.engine.lastOutClip.toNat * 256 := by
  simp only [flagsBWord, toNat_append_fields, BitVec.toNat_ofBool, BitVec.toNat_ofNat]
  omega

theorem peerWord_toNat (k : Station) (p : Peer) :
    (peerWord k p).toNat = (3 + k.val) * 4096 +
      (match p.entry.state with | .free => 0 | .heard => 1 | .admitted => 2 | .stale => 3) * 1024 +
      (match p.queue.state with | .idle => 0 | .priming => 1 | .playing => 2) * 256 +
      (match p.entry.cls with | .near => 0 | .far => 1) * 128 +
      (p.entry.conditions.late && !p.entry.conditions.ahead).toNat * 64 +
      (p.entry.conditions.duplicate && !p.entry.conditions.ahead).toNat * 32 +
      p.entry.conditions.ahead.toNat * 16 + p.entry.conditions.gap.toNat * 8 +
      p.entry.conditions.dry.toNat * 4 + p.entry.conditions.lapse.toNat * 2 +
      p.entry.conditions.admission.toNat := by
  simp only [peerWord, toNat_append_fields, entryCode_toNat, queueCode_toNat, classBit_toNat, BitVec.toNat_ofBool,
    BitVec.toNat_ofNat]
  omega

/-! ## The rotation (R163) -/

theorem scannedPeer_peer (k : Station) : scannedPeer (3 + k.val) = some k := by
  have hk : (3 + k.val) - 3 = k.val := by omega
  simp [scannedPeer, hk]

theorem statusWord_peer {k : Station} {s : State} (h : s.scanIndex = 3 + k.val) :
    statusWord s = peerWord k (peerAt s k) := by
  have hscan : scannedPeer (k.val + 3) = some k := Nat.add_comm k.val 3 ▸ scannedPeer_peer k
  unfold statusWord
  rw [h, Nat.add_comm]
  simp only [hscan]

/-- Settles O52: each word as the sum of its fields, and the place of each in the rotation. -/
theorem statusWordsHaveTheirLayouts : Obligations.StatusWordsHaveTheirLayouts := fun s =>
  ⟨selfWord_toNat s, flagsAWord_toNat s, flagsBWord_toNat s, fun h => by rw [statusWord, h],
    fun h => by rw [statusWord, h], fun h => by rw [statusWord, h],
    fun k => ⟨statusWord_peer, peerWord_toNat k (peerAt s k)⟩⟩

end Sys2Proof.Machine

/-! # The queue of a peer: arrivals and takes -/

namespace Sys2Proof.Machine

/-! ## A block offered to a queue (R77 to R83) -/

section Arrivals

variable {w : Seq} {x : Slot} {l : List Slot}

/-- A slot inserted before the first that lies farther from W leaves the list in sequence order (R80). -/
theorem inSequence_insertSlot (hl : InSequence w l) (hx : ∀ y ∈ l, y.seq ≠ x.seq) :
    InSequence w (insertSlot w x l) := by
  obtain ⟨nearer, farther, rfl, hi, hnear, hfar⟩ := insertSlot_split (w := w) hx
  obtain ⟨hn, hf, hbetween⟩ := List.pairwise_append.1 hl
  have hbeyond : ∀ y ∈ farther, (x.seq - w).toNat < (y.seq - w).toNat := by
    cases farther with
    | nil => simp
    | cons y rest =>
      have hy := hfar y rfl
      obtain ⟨hrest, -⟩ := List.pairwise_cons.1 hf
      exact List.forall_mem_cons.2 ⟨hy, fun z hz => hy.trans (hrest z hz)⟩
  rw [hi]
  exact List.pairwise_append.2 ⟨hn, List.pairwise_cons.2 ⟨hbeyond, hf⟩, fun a ha =>
    List.forall_mem_cons.2 ⟨hnear a ha, hbetween a ha⟩⟩

/-- Where W is set, a block has one of four places against the window (R79). -/
theorem offerBlock_window_cases (depth : Nat) {p : Peer} (hs : p.queue.state ≠ .idle) (hw : p.queue.start = some w) :
    ((x.seq - w).toNat ≤ 7 ∧ (¬ ∃ y ∈ p.queue.slots, y.seq = x.seq) ∧
      offerBlock depth x p =
        { p with queue := enterPlaying depth w { p.queue with slots := insertSlot w x p.queue.slots } }) ∨
    ((x.seq - w).toNat ≤ 7 ∧ (∃ y ∈ p.queue.slots, y.seq = x.seq) ∧
      offerBlock depth x p = withConditions { Conditions.empty with duplicate := true } p) ∨
    (8 ≤ (x.seq - w).toNat ∧ (x.seq - w).toNat ≤ 2047 ∧
      offerBlock depth x p = withConditions { Conditions.empty with ahead := true } (primeAround x p)) ∨
    (2048 ≤ (x.seq - w).toNat ∧
      offerBlock depth x p = withConditions { Conditions.empty with late := true } p) := by
  obtain ⟨h, -⟩ | ⟨-, h, -⟩ | ⟨v, -, hv, h⟩ := offerBlock_cases depth x p
  · exact absurd h hs
  · simp [hw] at h
  · obtain rfl : w = v := Option.some.inj (hw.symm.trans hv)
    exact h

/-- Entry to PLAYING leaves the slots, W, the concealment count and the pending correction (R80, R83). -/
@[simp] theorem enterPlaying_frame (depth : Nat) (w : Seq) (q : Queue) :
    (enterPlaying depth w q).slots = q.slots ∧ (enterPlaying depth w q).start = q.start ∧
    (enterPlaying depth w q).concealed = q.concealed ∧ (enterPlaying depth w q).correction = q.correction := by
  unfold enterPlaying
  split <;> simp

theorem enterPlaying_of_reached {depth : Nat} {q : Queue} (hs : q.state = .priming) (hd : depth ≤ q.slots.length) :
    enterPlaying depth w q =
      { q with state := .playing, cursor := some { block := w, offset := 0 }, lastGood := zeroBlock } :=
  if_pos ⟨hs, hd⟩

theorem enterPlaying_of_not_reached {depth : Nat} {q : Queue} (h : q.state = .playing ∨ q.slots.length < depth) :
    enterPlaying depth w q = q := by
  refine if_neg fun ⟨hs, hd⟩ => ?_
  rcases h with h | h
  · simp [hs] at h
  · omega

end Arrivals

/-- Settles O21: by the distance from W, and in window by whether the number is held. -/
theorem offeredBlockIsClassedByTheWindow : Obligations.OfferedBlockIsClassedByTheWindow := by
  intro depth x p
  refine ⟨fun hs => ?_, fun hs hw => ?_, fun w hs hw => ?_⟩
  · simpa [hs] using offerBlock_cases depth x p
  · simpa [hs, hw] using offerBlock_cases depth x p
  · have hcases := offerBlock_window_cases (x := x) depth hs hw
    refine ⟨fun hd hheld => ?_, fun hd hnew => ?_, fun h8 hd => ?_, fun hd => ?_⟩
    · obtain ⟨-, h, -⟩ | ⟨-, -, e⟩ | ⟨h, -, -⟩ | ⟨h, -⟩ := hcases
      · exact absurd hheld h
      · rw [e]
        simp [withConditions, unionConditions, Conditions.empty]
      all_goals omega
    · obtain ⟨-, -, e⟩ | ⟨-, h, -⟩ | ⟨h, -, -⟩ | ⟨h, -⟩ := hcases
      · have hother : ∀ y ∈ p.queue.slots, y.seq ≠ x.seq := fun y hy heq => hnew ⟨y, hy, heq⟩
        refine e ▸ ⟨rfl, rfl, rfl, by simpa using insertSlot_split hother, fun hseq => ?_, by simpa using hw,
          by simp, by simp, fun hp hfull => ?_, fun hstays => ?_⟩
        · simpa using inSequence_insertSlot hseq hother
        · rw [enterPlaying_of_reached (q := { p.queue with slots := insertSlot w x p.queue.slots }) hp
            (by simpa using hfull)]
          exact ⟨rfl, rfl, rfl⟩
        · rw [enterPlaying_of_not_reached (q := { p.queue with slots := insertSlot w x p.queue.slots })
            (by simpa using hstays)]
          exact ⟨rfl, rfl, rfl⟩
      · exact absurd h hnew
      all_goals omega
    · obtain ⟨h, -, -⟩ | ⟨h, -, -⟩ | ⟨-, -, e⟩ | ⟨h, -⟩ := hcases
      case inr.inr.inl =>
        rw [e]
        simp [withConditions, unionConditions, Conditions.empty, primeAround, flushPeer, flushQueue, DriftSums.zero,
          InputRecord.zero]
      all_goals omega
    · obtain ⟨h, -, -⟩ | ⟨h, -, -⟩ | ⟨-, h, -⟩ | ⟨-, e⟩ := hcases
      case inr.inr.inr =>
        rw [e]
        simp [withConditions, unionConditions, Conditions.empty]
      all_goals omega

/-! ## The span of a take (R85) -/

section Span

variable {q : Queue} {c : Cursor}

theorem takeLength_bounds (x : Option Correction) : 63 ≤ takeLength x ∧ takeLength x ≤ 65 := by
  cases x with
  | none => simp [takeLength]
  | some x => cases x <;> simp [takeLength]

/-- A take is played exactly if each block that its input samples come from is held (R85). -/
theorem takePlays_iff (q : Queue) (c : Cursor) :
    takePlays q c = true ↔ ∀ j : Nat, j ≤ (c.offset.val + takeLength q.correction - 1) / 64 →
      ∃ x ∈ q.slots, x.seq = c.block + BitVec.ofNat 12 j := by
  obtain ⟨hlow, hhigh⟩ := takeLength_bounds q.correction
  rw [takePlays, spanHeld_iff]
  constructor
  · rintro ⟨hfirst, hnext⟩ j hj
    obtain rfl | rfl : j = 0 ∨ j = 1 := by omega
    · simpa using hfirst
    · exact hnext.resolve_left (by omega)
  · intro h
    refine ⟨by simpa using h 0 (Nat.zero_le _), ?_⟩
    by_cases hspan : c.offset.val + takeLength q.correction ≤ 64
    · exact .inl hspan
    · exact .inr (h 1 (by omega))

theorem takePlays_eq_false {j : Nat} (hj : j ≤ (c.offset.val + takeLength q.correction - 1) / 64)
    (h : ¬ ∃ x ∈ q.slots, x.seq = c.block + BitVec.ofNat 12 j) : takePlays q c = false :=
  Bool.eq_false_iff.2 fun hp => h ((takePlays_iff q c).1 hp j hj)

/-- The samples of a number that is held are those of a slot that has it (R74). -/
theorem slotSample_of_held {seq : Seq} (h : ∃ x ∈ q.slots, x.seq = seq) :
    ∃ x ∈ q.slots, x.seq = seq ∧ ∀ i : Nat, slotSample q seq i = x.samples.toList.getD i 0 := by
  obtain ⟨x, hx⟩ := Option.isSome_iff_exists.1 ((holdsSeq_iff q seq).2 h)
  refine ⟨x, List.mem_of_find?_eq_some hx, by simpa using List.find?_some hx, fun i => ?_⟩
  rw [slotSample, hx]

/-- Input sample i of a played take is sample o + i of the blocks from the cursor block on (R85). -/
theorem inputSample_of_span {i : Nat} (hi : c.offset.val + i < 128)
    (h : ∃ x ∈ q.slots, x.seq = c.block + BitVec.ofNat 12 ((c.offset.val + i) / 64)) :
    ∃ x ∈ q.slots, x.seq = c.block + BitVec.ofNat 12 ((c.offset.val + i) / 64) ∧
      inputSample q c i = x.samples.toList.getD ((c.offset.val + i) % 64) 0 := by
  obtain ⟨x, hx, hseq, hsample⟩ := slotSample_of_held h
  refine ⟨x, hx, hseq, ?_⟩
  rw [← hsample, inputSample]
  split
  · have hblock : (c.offset.val + i) / 64 = 0 := by omega
    have hplace : (c.offset.val + i) % 64 = c.offset.val + i := by omega
    rw [hblock, hplace]
    simp
  · have hblock : (c.offset.val + i) / 64 = 1 := by omega
    have hplace : (c.offset.val + i) % 64 = c.offset.val + i - 64 := by omega
    rw [hblock, hplace]
    rfl

end Span

/-! ## The outputs of a take (R86, R88) -/

/-- The rounded mean is a sample, and lies between the two (R86). -/
theorem meanSample_toInt (a b : Sample) : (meanSample a b).toInt = (a.toInt + b.toInt + 1) / 2 := by
  have ha := BitVec.le_toInt a
  have hb := BitVec.le_toInt b
  have ha' := BitVec.toInt_lt (x := a)
  have hb' := BitVec.toInt_lt (x := b)
  exact BitVec.toInt_ofInt_eq_self (by decide) (by omega) (by omega)

/-- The fade factor of R88 by the count before the take. -/
theorem fadeFactor_succ (c : Nat) :
    fadeFactor (c + 1) = if c = 0 then 24576 else if c = 1 then 16384 else if c = 2 then 8192 else 0 := by
  simp [fadeFactor]

theorem fadeFactor_le (c : Nat) : fadeFactor c ≤ 24576 := by
  unfold fadeFactor
  split_ifs <;> simp

/-- A sample scaled by at most three quarters, rounded, lies between 0 and the sample (R88). -/
theorem faded_between (v : Int) {f : Nat} (hf : f ≤ 24576) :
    min v 0 ≤ (v * (f : Int) + 16384) / 32768 ∧ (v * (f : Int) + 16384) / 32768 ≤ max v 0 := by
  have hfactor : (f : Int) ≤ 24576 := by exact_mod_cast hf
  rcases le_total 0 v with hv | hv
  · have hlow : 0 ≤ v * (f : Int) := by positivity
    have hhigh : v * (f : Int) ≤ v * 24576 := mul_le_mul_of_nonneg_left hfactor hv
    omega
  · have hlow : v * 24576 ≤ v * (f : Int) := mul_le_mul_of_nonpos_left hfactor hv
    have hhigh : v * (f : Int) ≤ 0 := mul_nonpos_of_nonpos_of_nonneg hv (by positivity)
    omega

theorem natAbs_faded_le (v : Int) {f : Nat} (hf : f ≤ 24576) :
    ((v * (f : Int) + 16384) / 32768).natAbs ≤ v.natAbs := by
  obtain ⟨hlow, hhigh⟩ := faded_between v hf
  omega

theorem fadedBlock_toInt (c : Nat) (last : Block) (n : Fin 64) :
    (fadedBlock c last)[n].toInt = (last[n].toInt * (fadeFactor c : Int) + 16384) / 32768 := by
  obtain ⟨habove, hbelow⟩ := faded_between last[n].toInt (fadeFactor_le c)
  have hlow := BitVec.le_toInt last[n]
  have hhigh := BitVec.toInt_lt (x := last[n])
  refine (congrArg BitVec.toInt (by simp [fadedBlock])).trans
    (BitVec.toInt_ofInt_eq_self (w := 16) (by decide) ?_ ?_) <;> omega

/-- From the fourth concealment on the output is silence (R88). -/
theorem fadedBlock_of_four_le {c : Nat} (h : 4 ≤ c) (last : Block) : fadedBlock c last = Vector.replicate 64 0 := by
  have hf : fadeFactor c = 0 := by
    unfold fadeFactor
    split_ifs <;> omega
  ext i hi
  simp [fadedBlock, hf]

theorem takeCursor_of_not_playing {q : Queue} (h : q.state ≠ .playing) : takeCursor q = none := by
  unfold takeCursor
  split <;> simp_all

theorem takeOutput_of_plays {q : Queue} {c : Cursor} (hs : q.state = .playing) (hc : q.cursor = some c)
    (hp : takePlays q c = true) : takeOutput q = some (playedBlock q c) := by
  simp [takeOutput, (takeCursor_eq_some_iff q c).2 ⟨hs, hc⟩, hp]

theorem takeOutput_of_conceals {q : Queue} {c : Cursor} (hs : q.state = .playing) (hc : q.cursor = some c)
    (hp : takePlays q c = false) : takeOutput q = some (fadedBlock (q.concealed + 1) q.lastGood) := by
  simp [takeOutput, (takeCursor_eq_some_iff q c).2 ⟨hs, hc⟩, hp]

/-- The table of R86, sample by sample. -/
theorem playedBlock_getElem (q : Queue) (c : Cursor) (n : Fin 64) :
    (playedBlock q c)[n] =
      if n.val < 32 ∨ q.correction = none then inputSample q c n.val
      else if q.correction = some .slip then
        (if n.val = 32 then meanSample (inputSample q c 32) (inputSample q c 33)
          else inputSample q c (n.val + 1))
      else
        (if n.val = 32 then meanSample (inputSample q c 31) (inputSample q c 32)
          else inputSample q c (n.val - 1)) := by
  cases hx : q.correction with
  | none => simp [playedBlock, hx]
  | some x => cases x <;> simp [playedBlock, hx]

theorem takeOutput_of_not_playing {q : Queue} (h : q.state ≠ .playing) : takeOutput q = none := by
  rw [takeOutput, takeCursor_of_not_playing h]

/-! ## The close of a drift window (R103 to R105) -/

/-- SLIP at a mean depth of D + 1 or more and STRETCH below D, as sums over L takes (R104, R105). -/
theorem driftDecision_eq {g : Settings} (hl : 0 < g.driftWindow) (sum : Nat) (x : Option Correction) :
    driftDecision g sum x =
      if (g.targetDepth + 1) * g.driftWindow ≤ sum then some .slip
      else if sum + 1 ≤ g.targetDepth * g.driftWindow then some .stretch
      else x := by
  have hslip : g.targetDepth + 1 ≤ sum / g.driftWindow ↔ (g.targetDepth + 1) * g.driftWindow ≤ sum :=
    Nat.le_div_iff_mul_le hl
  have hstretch : sum / g.driftWindow + 1 ≤ g.targetDepth ↔ sum + 1 ≤ g.targetDepth * g.driftWindow :=
    Nat.div_lt_iff_lt_mul hl
  simp only [driftDecision, hslip, hstretch]

/-- What is pending once the window has closed if it is due (R104, R105). -/
def correctionAfter (g : Settings) (d : DriftSums) (x : Option Correction) : Option Correction :=
  if g.driftWindow ≤ d.depthCount then driftDecision g d.depthSum x else x

/-- The sums once the window has closed if it is due (R104). -/
def sumsAfter (g : Settings) (d : DriftSums) : DriftSums :=
  if g.driftWindow ≤ d.depthCount then DriftSums.zero else d

theorem closeWindowIfDue_eq (g : Settings) (p : Peer) :
    closeWindowIfDue g p =
      { p with
        queue := { p.queue with correction := correctionAfter g p.drift p.queue.correction }
        drift := sumsAfter g p.drift } := by
  unfold closeWindowIfDue correctionAfter sumsAfter
  split <;> rfl

theorem correctionAfter_eq {g : Settings} (hl : 0 < g.driftWindow) (d : DriftSums) (x : Option Correction) :
    correctionAfter g d x =
      if g.driftWindow ≤ d.depthCount ∧ (g.targetDepth + 1) * g.driftWindow ≤ d.depthSum then some .slip
      else if g.driftWindow ≤ d.depthCount ∧ d.depthSum + 1 ≤ g.targetDepth * g.driftWindow then some .stretch
      else x := by
  rw [correctionAfter, driftDecision_eq hl]
  by_cases hd : g.driftWindow ≤ d.depthCount <;> simp [hd]

/-! ## The take as a whole (R84 to R91) -/

section Takes

variable {g : Settings} {p : Peer} {c : Cursor}

/-- A played take, with the window closed where it is due (R86, R87, R90, R104). -/
theorem takePeer_of_plays (g : Settings) (hs : p.queue.state = .playing) (hc : p.queue.cursor = some c)
    (hp : takePlays p.queue c = true) :
    takePeer g p =
      { p with
        queue := { queuePlayed c p.queue with correction := correctionAfter g (depthSampled p).drift none }
        drift := sumsAfter g (depthSampled p).drift } := by
  rw [takePeer, (takeCursor_eq_some_iff _ c).2 ⟨hs, hc⟩]
  simp only [hp, if_true, closeWindowIfDue_eq]
  rfl

/-- What a concealed take below the lapse does to the entry and to the queue (R88 to R90). -/
theorem concealPeer_of_lt (h : p.queue.concealed < 24) :
    concealPeer c p = withConditions (concealCondition p.queue c.block) { p with queue := queueConcealed c p.queue } :=
  if_neg (by simpa [queueConcealed] using h)

/-- A concealed take below the lapse, with the window closed where it is due (R88 to R90, R104). -/
theorem takePeer_of_conceals (g : Settings) (hs : p.queue.state = .playing) (hc : p.queue.cursor = some c)
    (hp : takePlays p.queue c = false) (h : p.queue.concealed < 24) :
    takePeer g p =
      { withConditions (concealCondition p.queue c.block) p with
        queue := { queueConcealed c p.queue with
          correction := correctionAfter g (depthSampled p).drift p.queue.correction }
        drift := sumsAfter g (depthSampled p).drift } := by
  rw [takePeer, (takeCursor_eq_some_iff _ c).2 ⟨hs, hc⟩]
  simp only [hp, Bool.false_eq_true, if_false, closeWindowIfDue_eq, concealPeer_of_lt (p := depthSampled p) h]
  rfl

/-- The peer that the twenty-fifth concealment leaves: its condition and LAPSE recorded, its queue flushed to
PRIMING (R89, R91). -/
def lapsedPeer (c : Cursor) (p : Peer) : Peer :=
  withConditions { Conditions.empty with lapse := true }
    (flushPeer .priming (withConditions (concealCondition p.queue c.block) p))

theorem concealPeer_of_le (h : 24 ≤ p.queue.concealed) : concealPeer c (depthSampled p) = lapsedPeer c p :=
  if_pos (Nat.succ_le_succ h)

/-- The take that lapses a queue forestalls the close of its window, the sums being 0 (R91, R104). -/
theorem takePeer_of_lapses (hl : 0 < g.driftWindow) (hs : p.queue.state = .playing) (hc : p.queue.cursor = some c)
    (hp : takePlays p.queue c = false) (h : 24 ≤ p.queue.concealed) : takePeer g p = lapsedPeer c p := by
  rw [takePeer, (takeCursor_eq_some_iff _ c).2 ⟨hs, hc⟩]
  simp only [hp, Bool.false_eq_true, if_false, concealPeer_of_le h]
  exact closeWindowIfDue_of_lt hl

theorem takePeer_of_no_cursor (g : Settings) (h : p.queue.cursor = none) : takePeer g p = p := by
  have hcursor : takeCursor p.queue = none := by
    unfold takeCursor
    split <;> simp [h]
  rw [takePeer, hcursor]

theorem takePeer_of_not_playing (g : Settings) (h : p.queue.state ≠ .playing) : takePeer g p = p := by
  rw [takePeer, takeCursor_of_not_playing h]

end Takes

/-- Settles O22. -/
theorem playedTakeReadsItsSpan : Obligations.PlayedTakeReadsItsSpan := by
  refine ⟨?_, fun g p h => ⟨takeOutput_of_not_playing h, takePeer_of_not_playing g h⟩, fun a b => ?_⟩
  · intro g p c hs hc hl k o sum closes hspan
    have hp : takePlays p.queue c = true := (takePlays_iff _ _).2 hspan
    obtain ⟨-, hk⟩ := takeLength_bounds p.queue.correction
    have ho := c.offset.isLt
    refine ⟨_, takeOutput_of_plays hs hc hp, playedBlock_getElem _ _, fun i hi => ?_, ?_⟩
    · have hi : i < takeLength p.queue.correction := hi
      exact inputSample_of_span (by omega) (hspan _ (Nat.div_le_div_right (by omega)))
    · rw [takePeer_of_plays g hs hc hp]
      exact ⟨rfl, rfl, rfl, hs, rfl, rfl, correctionAfter_eq hl _ _, ⟨_, rfl, rfl, rfl, rfl⟩,
        mem_advanceCursor_slots _ _ _⟩
  · rw [meanSample_toInt]
    omega

/-- A concealed take moves the cursor one block on and keeps its place in the block (R90). -/
theorem queueConcealed_cursor (c : Cursor) (q : Queue) :
    (queueConcealed c q).cursor = some { block := c.block + 1, offset := c.offset } := by
  have ho := c.offset.isLt
  have hpassed : (c.offset.val + 64) / 64 = 1 := by omega
  have hplace : (c.offset.val + 64) % 64 = c.offset.val := by omega
  simp [queueConcealed, advanceCursor, hpassed, hplace]

theorem queueConcealed_start (c : Cursor) (q : Queue) : (queueConcealed c q).start = some (c.block + 1) :=
  congrArg (Option.map Cursor.block) (queueConcealed_cursor c q)

/-- A concealed take drops the cursor block's slot and no other (R90). -/
theorem mem_queueConcealed_slots (c : Cursor) (q : Queue) (x : Slot) :
    x ∈ (queueConcealed c q).slots ↔ x ∈ q.slots ∧ x.seq ≠ c.block := by
  have ho := c.offset.isLt
  have hpassed : (c.offset.val + 64) / 64 = 1 := by omega
  have hdistance : (x.seq - c.block).toNat = 0 ↔ x.seq = c.block := by
    rw [← BitVec.toNat_inj]
    bv_omega
  rw [queueConcealed, mem_advanceCursor_slots, hpassed, Nat.one_le_iff_ne_zero, Ne, hdistance]

theorem heldBeyond_iff (q : Queue) (s : Seq) :
    heldBeyond q s = true ↔ ∃ x ∈ q.slots, 1 ≤ (x.seq - s).toNat ∧ (x.seq - s).toNat ≤ 7 := by
  simp [heldBeyond]

/-- GAP or DRY joins the entry's conditions (R89). -/
theorem withConditions_concealCondition (q : Queue) (s : Seq) (p : Peer) :
    (withConditions (concealCondition q s) p).entry =
      { p.entry with conditions := { p.entry.conditions with
          gap := p.entry.conditions.gap || heldBeyond q s, dry := p.entry.conditions.dry || !heldBeyond q s } } := by
  cases h : heldBeyond q s <;> simp [concealCondition, h, unionConditions, Conditions.empty]

/-- Settles O23. -/
theorem concealedTakeFadesTheLastGoodBlock : Obligations.ConcealedTakeFadesTheLastGoodBlock := by
  intro g p c j hs hc hcount hl hj hmissing f sum closes
  have hp : takePlays p.queue c = false := takePlays_eq_false hj hmissing
  have hf : f = (fadeFactor (p.queue.concealed + 1) : Int) := by
    rw [fadeFactor_succ]
    simp [f]
  refine ⟨_, takeOutput_of_conceals hs hc hp, fun n => ?_, ?_⟩
  · rw [fadedBlock_toInt, hf]
    exact ⟨rfl, natAbs_faded_le _ (fadeFactor_le _)⟩
  · have hentry := withConditions_concealCondition p.queue c.block p
    rw [takePeer_of_conceals g hs hc hp hcount]
    refine ⟨rfl, rfl, hs, rfl, rfl, correctionAfter_eq hl _ _, queueConcealed_cursor c p.queue,
      queueConcealed_start c p.queue, mem_queueConcealed_slots c p.queue, fun hbeyond => ?_, fun hnone => ?_⟩
    · exact hentry.trans (by simp [(heldBeyond_iff _ _).2 hbeyond])
    · exact hentry.trans (by simp [Bool.eq_false_iff.2 (mt (heldBeyond_iff _ _).1 hnone)])

/-! ## The rows of one queue (R91, R104) -/

section Rows

variable {k : Station} {s : State}

theorem exec_queueLapse (hb : BlockEnds s) (hd : lapseDue (peerAt s k).queue = true) :
    exec (.queueLapse k) s = .next (setFlag .peerLapse (updatePeer k lapsePeer s)) :=
  congrArg _ (if_pos ⟨hb, hd⟩)

theorem exec_driftWindowClose (hb : BlockEnds s) (hd : windowCloses s.settings (peerAt s k) = true) :
    exec (.driftWindowClose k) s = .next (updatePeer k (closeAtTake s.settings) s) :=
  congrArg _ (if_pos ⟨hb, hd⟩)

/-- The row's take is the take that lapses the queue (R91). -/
theorem lapsePeer_of_due {p : Peer} {c : Cursor} (hs : p.queue.state = .playing) (hc : p.queue.cursor = some c)
    (h : 24 ≤ p.queue.concealed) : lapsePeer p = lapsedPeer c p := by
  rw [lapsePeer, (takeCursor_eq_some_iff _ c).2 ⟨hs, hc⟩]
  exact concealPeer_of_le h

end Rows

/-- Settles O24. -/
theorem twentyFifthConcealmentLapsesTheQueue : Obligations.TwentyFifthConcealmentLapsesTheQueue := by
  intro k c j s p hs hc hcount hj hmissing beyond lapsed
  have hp : takePlays p.queue c = false := takePlays_eq_false hj hmissing
  have hle : 24 ≤ p.queue.concealed := hcount.ge
  have hlapsed : lapsedPeer c p = lapsed := by
    have hentry := withConditions_concealCondition p.queue c.block p
    rw [lapsedPeer, withConditions, flushPeer_entry, hentry]
    simp [lapsed, beyond, heldBeyond, unionConditions, Conditions.empty, flushPeer, flushQueue, DriftSums.zero,
      InputRecord.zero]
  refine ⟨?_, fun hl => (takePeer_of_lapses hl hs hc hp hle).trans hlapsed, fun hlock hframe => ?_⟩
  · rw [takeOutput_of_conceals hs hc hp, fadedBlock_of_four_le (by omega)]
  · rw [exec_queueLapse ⟨hlock, hframe⟩ ((lapseDue_iff _).2 ⟨c, hs, hc, hp, hle⟩), ← hlapsed,
      ← lapsePeer_of_due hs hc hle]
    rfl

/-- Settles O25. -/
theorem driftWindowCloseSetsTheCorrection : Obligations.DriftWindowCloseSetsTheCorrection := by
  intro k c s p d l sum hl hs hc hplays hcount hlock hframe
  have hnot : lapseDue p.queue = false := by
    refine Bool.eq_false_iff.2 fun h => ?_
    obtain ⟨c', -, hc', hp, hle⟩ := (lapseDue_iff _).1 h
    obtain rfl : c = c' := Option.some.inj (hc.symm.trans hc')
    exact hplays.elim (by omega) fun hspan => by simp [(takePlays_iff _ _).2 hspan] at hp
  have hcloses : windowCloses s.settings p = true := by
    simp [windowCloses, (takeCursor_eq_some_iff _ c).2 ⟨hs, hc⟩, hnot, hcount, l]
  have hsample : p.drift.depthCount < s.settings.driftWindow := Nat.lt_of_succ_le hcount.le
  rw [exec_driftWindowClose ⟨hlock, hframe⟩ hcloses, updatePeer, closeAtTake, if_pos hsample, closeWindow,
    driftDecision_eq hl]
  rfl

end Sys2Proof.Machine

/-! # Lock -/

namespace Sys2Proof.Machine

section Lock

variable {s : State}

/-- A mark is judged in SLAVE mode, by the lock state (R153, R154). -/
theorem exec_frameMark_of_unlocked (hc : s.settings.clock = .slave) (hl : s.lap.lock = .unlocked) (n : Nat) :
    exec (.frameMark n) s = .next (markUnlocked n s) := by
  rw [exec, execFrameMark, hc, hl]

theorem exec_frameMark_of_locked (hc : s.settings.clock = .slave) (hl : s.lap.lock = .locked) (n : Nat) :
    exec (.frameMark n) s = .next (markLocked n s) := by
  rw [exec, execFrameMark, hc, hl]

theorem exec_missedMark_of_unlocked (hc : s.settings.clock = .slave) (hl : s.lap.lock = .unlocked) :
    exec .missedMark s = .next { s with lap := { s.lap with markCount := 0 } } := by
  rw [exec, execMissedMark, hc, hl]

theorem exec_missedMark_of_locked (hc : s.settings.clock = .slave) (hl : s.lap.lock = .locked) :
    exec .missedMark s = .next (loseLock 0 s) := by
  rw [exec, execMissedMark, hc, hl]

/-- The first mark, and one at a wrong spacing, begin a run (R153). -/
theorem markUnlocked_begins {n : Nat} (h : s.lap.markCount = 0 ∨ n ≠ frameLength s.settings) :
    markUnlocked n s = { s with lap := { s.lap with markCount := 1 } } := by
  unfold markUnlocked
  by_cases hz : s.lap.markCount = 0
  · rw [if_pos hz]
  · rw [if_neg hz, if_neg (h.resolve_left hz)]

theorem markUnlocked_grows {n : Nat} (hm : s.lap.markCount = 1 ∨ s.lap.markCount = 2)
    (hn : n = frameLength s.settings) :
    markUnlocked n s = { s with lap := { s.lap with markCount := s.lap.markCount + 1 } } := by
  unfold markUnlocked
  rw [if_neg (by omega), if_pos hn, if_neg (by omega)]

/-- The fourth mark of a run locks the port (R153). -/
theorem markUnlocked_locks {n : Nat} (hm : s.lap.markCount = 3) (hn : n = frameLength s.settings) :
    markUnlocked n s = lockPort s := by
  unfold markUnlocked
  rw [if_neg (by omega), if_pos hn, if_pos hm.ge]

/-- A mark at the right spacing keeps lock, and any other loses it with one mark counted (R154). -/
theorem markLocked_keeps {n : Nat} (hn : n = frameLength s.settings) : markLocked n s = s := if_pos hn

theorem markLocked_loses {n : Nat} (hn : n ≠ frameLength s.settings) : markLocked n s = loseLock 1 s := if_neg hn

theorem peerAt_lockPort (s : State) (k : Station) : peerAt (lockPort s) k = flushIfActive (peerAt s k) :=
  peerAt_mapPeers flushIfActive _ k

/-- A computation in flight is marked, and one that is over keeps its mark (R144). -/
theorem lossEngine_eq (e : MixEngine) :
    lossEngine e = { e with ready := none, discard := if e.state = .computing then true else e.discard } := by
  unfold lossEngine
  cases e.state <;> simp

end Lock

/-- Settles O51: by the lock state, and in UNLOCKED by the run of marks. -/
theorem marksGainAndLoseLock : Obligations.MarksGainAndLoseLock := by
  refine ⟨fun spacing s hc => ?_, fun s hc => ?_⟩
  · intro p
    refine ⟨fun hl hm => ?_, fun hl hm hp => ?_, fun hl hm hp => ?_, fun hl hp => ?_⟩
    · rw [exec_frameMark_of_unlocked hc hl, markUnlocked_begins hm]
    · rw [exec_frameMark_of_unlocked hc hl, markUnlocked_grows hm hp]
    · refine ⟨_, (exec_frameMark_of_unlocked hc hl _).trans (congrArg _ (markUnlocked_locks hm hp)), rfl,
        fun k hk => ?_, fun k hk => ?_, by simp⟩
      · rw [peerAt_lockPort, flushIfActive_eq, if_pos hk]
      · rw [peerAt_lockPort, flushIfActive_eq, if_neg hk]
        rfl
    · rw [exec_frameMark_of_locked hc hl, markLocked_keeps hp]
  · intro lost
    have hlost (n : Nat) : loseLock n s = lost n := by
      rw [loseLock, lossEngine_eq]
      rfl
    refine ⟨fun spacing hl hp => ?_, fun hl => ?_, exec_missedMark_of_unlocked hc⟩
    · rw [exec_frameMark_of_locked hc hl, markLocked_loses hp, hlost]
    · rw [exec_missedMark_of_locked hc hl, hlost]

end Sys2Proof.Machine

/-! # The queues and the drift sums stay sound -/

namespace Sys2Proof.Machine

/-! ## Slots in their window (R74, R80, R90) -/

/-- The slots of a queue with window start `w`: no two of one number, and each within 7 of W (R74, R80). -/
structure InWindow (w : Seq) (slots : List Slot) : Prop where
  distinct : (slots.map Slot.seq).Nodup
  near : ∀ x ∈ slots, (x.seq - w).toNat ≤ 7

section Windows

variable {w : Seq} {x : Slot} {l : List Slot}

/-- A window has eight places (R74). -/
theorem InWindow.length_le (h : InWindow w l) : l.length ≤ 8 := by
  have hinj : Function.Injective fun q : Seq => (q - w).toNat := fun a b e => by
    simpa using congrArg (· + w) (BitVec.eq_of_toNat_eq e)
  have hplaces : ((l.map Slot.seq).map fun q => (q - w).toNat).Nodup := h.distinct.map hinj
  have hbelow : ((l.map Slot.seq).map fun q => (q - w).toNat) ⊆ List.range 8 := fun n hn => by
    rw [List.map_map] at hn
    obtain ⟨x, hx, rfl⟩ := List.mem_map.1 hn
    exact List.mem_range.2 (Nat.lt_succ_of_le (h.near x hx))
  simpa using (List.subperm_of_subset hplaces hbelow).length_le

theorem InWindow.singleton (x : Slot) : InWindow x.seq [x] := ⟨by simp, by simp [-BitVec.toNat_sub]⟩

theorem InWindow.insert (h : InWindow w l) (hd : (x.seq - w).toNat ≤ 7) (hx : ∀ y ∈ l, y.seq ≠ x.seq) :
    InWindow w (insertSlot w x l) :=
  ⟨nodup_insertSlot h.distinct hx, fun y hy => by
    obtain rfl | hy := (mem_insertSlot w x y l).1 hy
    · exact hd
    · exact h.near y hy⟩

/-- A slot that a cursor has not passed comes nearer by the blocks that it has (R90). -/
theorem distance_after {n : Nat} (h : n ≤ (x.seq - w).toNat) :
    (x.seq - (w + BitVec.ofNat 12 n)).toNat = (x.seq - w).toNat - n := by
  bv_omega

/-- The slots that a cursor has not passed (R90). -/
abbrev slotsFrom (n : Nat) (w : Seq) (l : List Slot) : List Slot := l.filter fun x => decide (n ≤ (x.seq - w).toNat)

theorem InWindow.advance (h : InWindow w l) (n : Nat) : InWindow (w + BitVec.ofNat 12 n) (slotsFrom n w l) := by
  refine ⟨h.distinct.sublist ((List.filter_sublist).map _), fun x hx => ?_⟩
  obtain ⟨hx, hn⟩ := List.mem_filter.1 hx
  have := h.near x hx
  rw [distance_after (of_decide_eq_true hn)]
  omega

theorem inSequence_advance (h : InSequence w l) (n : Nat) : InSequence (w + BitVec.ofNat 12 n) (slotsFrom n w l) := by
  refine (h.filter _).imp_of_mem fun ha hb hlt => ?_
  have ha := of_decide_eq_true (List.mem_filter.1 ha).2
  have hb := of_decide_eq_true (List.mem_filter.1 hb).2
  rw [distance_after ha, distance_after hb]
  omega

end Windows

/-! ## What a sound queue keeps -/

/-- The slots of a peer's queue stand in sequence order from W (R80). -/
abbrev InOrder (p : Peer) : Prop := ∀ w ∈ p.queue.start, InSequence w p.queue.slots

/-- A peer's drift sums are those of an open window, of samples of at most 8 slots (R101). -/
abbrev SumsInRange (g : Settings) (p : Peer) : Prop :=
  p.drift.depthCount < g.driftWindow ∧ p.drift.depthSum ≤ 8 * p.drift.depthCount

/-- Of a sound queue at `p` a sound one has come at `q`, in order and with its sums in range as before. -/
structure QueueKept (g : Settings) (p q : Peer) : Prop where
  sound : QueueSound g.targetDepth p → QueueSound g.targetDepth q
  order : QueueSound g.targetDepth p → InOrder p → InOrder q
  sums : QueueSound g.targetDepth p → SumsInRange g p → SumsInRange g q

/-- A queue as a flush leaves it, with the sums that go with it (R76, R107). -/
structure Flushed (p : Peer) : Prop where
  slots : p.queue.slots = []
  start : p.queue.start = none
  cursor : p.queue.cursor = none
  concealed : p.queue.concealed = 0
  correction : p.queue.correction = none
  drift : p.drift = DriftSums.zero

/-- The settings that the soundness of queues rests on: D at least 2 and L above 0 (R174). -/
abbrev QueueSettings (g : Settings) : Prop := 2 ≤ g.targetDepth ∧ 0 < g.driftWindow

section Kept

variable {g : Settings} {p q r : Peer}

theorem QueueKept.refl (g : Settings) (p : Peer) : QueueKept g p p := ⟨id, fun _ => id, fun _ => id⟩

theorem QueueKept.trans (h : QueueKept g p q) (k : QueueKept g q r) : QueueKept g p r :=
  ⟨k.sound ∘ h.sound, fun hp ho => k.order (h.sound hp) (h.order hp ho),
    fun hp hs => k.sums (h.sound hp) (h.sums hp hs)⟩

/-- What is pending at an entry and its record do not bear on its queue. -/
theorem QueueKept.of_same_queue (he : q.entry.state = .admitted ↔ p.entry.state = .admitted)
    (hq : q.queue = p.queue) (hd : q.drift = p.drift) : QueueKept g p q := by
  refine ⟨fun h => ?_, fun _ h => ?_, fun _ h => ?_⟩
  · rwa [QueueSound, he, hq, hd]
  · rwa [InOrder, hq]
  · rwa [SumsInRange, hd]

theorem QueueKept.of_conditions {c : Conditions} (he : q.entry = { p.entry with conditions := c })
    (hq : q.queue = p.queue) (hd : q.drift = p.drift) : QueueKept g p q :=
  .of_same_queue (by rw [he]) hq hd

/-- A flushed queue is IDLE or PRIMING as its entry asks, whatever it was (R75, R76). -/
theorem QueueKept.of_flushed (hg : QueueSettings g) (h : Flushed q) (hs : q.queue.state ≠ .playing)
    (he : QueueSound g.targetDepth p → (q.entry.state = .admitted ↔ q.queue.state ≠ .idle)) : QueueKept g p q := by
  obtain ⟨hdepth, hlength⟩ := hg
  obtain ⟨hslots, hstart, hcursor, hconcealed, hcorrection, hdrift⟩ := h
  refine ⟨fun hp => ?_, fun _ _ w hw => by simp [hstart] at hw, fun _ _ => ?_⟩
  case refine_2 =>
    rw [SumsInRange, hdrift]
    exact ⟨hlength, Nat.le_refl 0⟩
  have hbelow : q.queue.slots.length < g.targetDepth := by
    rw [hslots]
    exact Nat.zero_lt_of_lt hdepth
  exact ⟨he hp, fun _ => ⟨hslots, hstart⟩, fun _ => ⟨hbelow, by simp [hslots, hstart]⟩,
    fun h => absurd h hs, fun _ => ⟨hcursor, hconcealed, hcorrection, hdrift⟩, by simp [hconcealed], by simp [hslots],
    by simp [hslots], by simp [hslots]⟩

/-- A flush to PRIMING of a queue that is not IDLE leaves its entry ADMITTED (R75, R76). -/
theorem QueueKept.of_primed (hg : QueueSettings g) (hs : p.queue.state ≠ .idle)
    (he : q.entry.state = p.entry.state) (hq : q.queue = flushQueue .priming p.queue)
    (hd : q.drift = DriftSums.zero) : QueueKept g p q := by
  refine .of_flushed hg ⟨congrArg Queue.slots hq, congrArg Queue.start hq, congrArg Queue.cursor hq,
    congrArg Queue.concealed hq, congrArg Queue.correction hq, hd⟩ (by rw [hq]; simp) fun ⟨hadmitted, _⟩ => ?_
  rw [he, hadmitted, hq]
  simp [hs]

/-- What a queue in PRIMING that holds a slot needs to be sound (R75, R80, R83, R107). -/
theorem queueSound_of_priming {depth : Nat} {w : Seq} (he : p.entry.state = .admitted)
    (hs : p.queue.state = .priming) (hw : p.queue.start = some w) (hne : p.queue.slots ≠ [])
    (hd : p.queue.slots.length < depth) (hslots : InWindow w p.queue.slots)
    (hrest : p.queue.cursor = none ∧ p.queue.concealed = 0 ∧ p.queue.correction = none ∧
      p.drift = DriftSums.zero) : QueueSound depth p := by
  refine ⟨by simp [he, hs], by simp [hs], fun _ => ⟨hd, by simp [hw, hne]⟩, by simp [hs], fun _ => hrest, ?_,
    hslots.length_le, hslots.distinct, ?_⟩
  · obtain ⟨-, hcount, -⟩ := hrest
    omega
  · simpa [hw] using hslots.near

/-- What a queue in PLAYING needs to be sound (R75, R80, R91). -/
theorem queueSound_of_playing {depth : Nat} {c : Cursor} (he : p.entry.state = .admitted)
    (hs : p.queue.state = .playing) (hc : p.queue.cursor = some c) (hw : p.queue.start = some c.block)
    (hn : p.queue.concealed ≤ 24) (hslots : InWindow c.block p.queue.slots) : QueueSound depth p := by
  refine ⟨by simp [he, hs], by simp [hs], by simp [hs], fun _ => by simp [hc, hw], by simp [hs], hn,
    hslots.length_le, hslots.distinct, ?_⟩
  simpa [hw] using hslots.near

theorem QueueSound.inWindow {depth : Nat} {w : Seq} (h : QueueSound depth p) (hw : p.queue.start = some w) :
    InWindow w p.queue.slots := by
  obtain ⟨-, -, -, -, -, -, -, hdistinct, hnear⟩ := h
  exact ⟨hdistinct, fun x hx => hnear x hx w hw⟩

/-- A PLAYING queue's window starts at its cursor block, and its entry is ADMITTED (R75, R80). -/
theorem QueueSound.playing {depth : Nat} {c : Cursor} (h : QueueSound depth p) (hs : p.queue.state = .playing)
    (hc : p.queue.cursor = some c) :
    p.entry.state = .admitted ∧ p.queue.start = some c.block ∧ p.queue.concealed ≤ 24 := by
  obtain ⟨hentry, -, -, hplaying, -, hcount, -⟩ := h
  exact ⟨hentry.2 (by simp [hs]), by simpa [hc] using (hplaying hs).2, hcount⟩

end Kept

/-! ## Arrivals (R77 to R83) -/

section Arrivals

variable {g : Settings} {p q : Peer}

/-- A queue primed around one slot: the slot starts its window (R78, R82). -/
theorem QueueKept.of_primedAround (hg : QueueSettings g) {x : Slot} (hs : p.queue.state ≠ .idle)
    (he : q.entry.state = p.entry.state) (hd : QueueSound g.targetDepth p → q.drift = DriftSums.zero)
    (hq : QueueSound g.targetDepth p →
      q.queue = { flushQueue .priming p.queue with slots := [x], start := some x.seq }) :
    QueueKept g p q := by
  obtain ⟨hdepth, hlength⟩ := hg
  refine ⟨fun hp => ?_, fun hp _ w _ => ?_, fun hp _ => ?_⟩
  case refine_2 =>
    rw [hq hp]
    exact List.pairwise_singleton _ x
  case refine_3 =>
    rw [SumsInRange, hd hp]
    exact ⟨hlength, Nat.le_refl 0⟩
  obtain ⟨hadmitted, -⟩ := id hp
  have hqueue := hq hp
  exact queueSound_of_priming (w := x.seq) (he.trans (hadmitted.2 hs)) (congrArg Queue.state hqueue)
    (congrArg Queue.start hqueue) (by simp [hqueue]) (by rw [hqueue]; exact hdepth) (by rw [hqueue]; exact .singleton x)
    ⟨congrArg Queue.cursor hqueue, congrArg Queue.concealed hqueue, congrArg Queue.correction hqueue, hd hp⟩

/-- Outside IDLE a sound queue with W unset is PRIMING, with nothing summed or pending (R75, R107). -/
theorem QueueSound.unset {depth : Nat} (h : QueueSound depth p) (hs : p.queue.state ≠ .idle)
    (hw : p.queue.start = none) :
    p.drift = DriftSums.zero ∧ { p.queue with slots := [] } = flushQueue .priming p.queue := by
  obtain ⟨-, -, -, hplaying, hother, -⟩ := h
  have hpriming : p.queue.state = .priming := by
    cases hstate : p.queue.state with
    | idle => exact absurd hstate hs
    | priming => rfl
    | playing =>
      obtain ⟨hcursor, hstart⟩ := hplaying hstate
      simp [hstart, Option.isSome_iff_ne_none.1 hcursor] at hw
  obtain ⟨hcursor, hcount, hcorrection, hdrift⟩ := hother (by simp [hpriming])
  exact ⟨hdrift, by simp [flushQueue, hpriming, hw, hcursor, hcount, hcorrection]⟩

/-- A slot of a new number in window, and with it the start of the queue where it is the D-th (R80, R83). -/
theorem QueueKept.inserted {x : Slot} {w : Seq} (hs : p.queue.state ≠ .idle) (hw : p.queue.start = some w)
    (hd : (x.seq - w).toNat ≤ 7) (hx : ∀ y ∈ p.queue.slots, y.seq ≠ x.seq) :
    QueueKept g p
      { p with queue := enterPlaying g.targetDepth w { p.queue with slots := insertSlot w x p.queue.slots } } := by
  refine ⟨fun hp => ?_, fun hp ho v hv => ?_, fun _ => id⟩
  · have hslots := (hp.inWindow hw).insert hd hx
    obtain ⟨hadmitted, -, -, hplaying, hother, hcount, -⟩ := id hp
    obtain ⟨-, -, e⟩ | ⟨hfull, e⟩ :=
      enterPlaying_cases g.targetDepth w { p.queue with slots := insertSlot w x p.queue.slots } <;> rw [e]
    · exact queueSound_of_playing (c := { block := w, offset := 0 }) (hadmitted.2 hs) rfl rfl hw hcount hslots
    · cases hstate : p.queue.state with
      | idle => exact absurd hstate hs
      | priming =>
        exact queueSound_of_priming (hadmitted.2 hs) hstate hw (List.ne_nil_of_length_pos (by simp))
          (hfull.resolve_left (not_not.2 hstate)) hslots (hother (by simp [hstate]))
      | playing =>
        obtain ⟨c, hc⟩ := Option.isSome_iff_exists.1 (hplaying hstate).1
        obtain ⟨-, hblock, -⟩ := hp.playing hstate hc
        obtain rfl : w = c.block := Option.some.inj (hw.symm.trans hblock)
        exact queueSound_of_playing (hadmitted.2 hs) hstate hc hw hcount hslots
  · have hv : p.queue.start = some v := by simpa using hv
    obtain rfl : w = v := Option.some.inj (hw.symm.trans hv)
    simpa using inSequence_insertSlot (ho w hw) hx

theorem offerBlock_kept (hg : QueueSettings g) (x : Slot) (p : Peer) :
    QueueKept g p (offerBlock g.targetDepth x p) := by
  obtain ⟨-, e⟩ | ⟨hs, hw, e⟩ | ⟨w, hs, hw, ⟨hd, hx, e⟩ | ⟨-, -, e⟩ | ⟨-, -, e⟩ | ⟨-, e⟩⟩ :=
    offerBlock_cases g.targetDepth x p <;> rw [e]
  · exact .refl g p
  · refine .of_primedAround hg (x := x) hs rfl (fun hp => (hp.unset hs hw).1) fun hp => ?_
    rw [← (hp.unset hs hw).2]
  · exact .inserted hs hw hd fun y hy hseq => hx ⟨y, hy, hseq⟩
  · exact .of_conditions rfl rfl rfl
  · exact .of_primedAround hg hs rfl (fun _ => rfl) (fun _ => rfl)
  · exact .of_conditions rfl rfl rfl

end Arrivals

/-! ## Takes (R84 to R91, R104) -/

section Takes

variable {g : Settings} {p q : Peer} {c : Cursor}

/-- A take that does not lapse its queue: the cursor, W and the slots go on together, and the sums take the
sample or the window closes (R87, R90, R103, R104). -/
structure Advances (g : Settings) (c : Cursor) (p q : Peer) : Prop where
  entry : q.entry.state = p.entry.state
  state : q.queue.state = .playing
  concealed : p.queue.concealed ≤ 24 → q.queue.concealed ≤ 24
  drift : q.drift = sumsAfter g (depthSampled p).drift
  moved : ∃ (n : Nat) (d : Cursor), d.block = c.block + BitVec.ofNat 12 n ∧ q.queue.cursor = some d ∧
    q.queue.start = some d.block ∧ q.queue.slots = slotsFrom n c.block p.queue.slots

theorem sumsAfter_inRange (hg : QueueSettings g) {d : DriftSums} (hsum : d.depthSum ≤ 8 * d.depthCount) :
    (sumsAfter g d).depthCount < g.driftWindow ∧ (sumsAfter g d).depthSum ≤ 8 * (sumsAfter g d).depthCount := by
  unfold sumsAfter
  split
  · simpa [DriftSums.zero] using hg.2
  · omega

theorem Advances.kept (h : Advances g c p q) (hg : QueueSettings g) (hs : p.queue.state = .playing)
    (hc : p.queue.cursor = some c) : QueueKept g p q := by
  obtain ⟨hentry, hstate, hconcealed, hdrift, n, d, hd, hcursor, hstart, hslots⟩ := h
  refine ⟨fun hp => ?_, fun hp ho => ?_, fun hp hsums => ?_⟩
  all_goals obtain ⟨hadmitted, hw, hcount⟩ := hp.playing hs hc
  · refine queueSound_of_playing (hentry.trans hadmitted) hstate hcursor hstart (hconcealed hcount) ?_
    rw [hd, hslots]
    exact (hp.inWindow hw).advance n
  · rw [InOrder, hstart, hslots, hd]
    rintro _ ⟨⟩
    exact inSequence_advance (ho _ hw) n
  · have hlength := (hp.inWindow hw).length_le
    rw [SumsInRange, hdrift]
    refine sumsAfter_inRange hg ?_
    simp only [depthSampled]
    omega

theorem lapsedPeer_kept (hg : QueueSettings g) (hs : p.queue.state = .playing) : QueueKept g p (lapsedPeer c p) :=
  .of_primed hg (by simp [hs]) rfl rfl rfl

theorem takePeer_kept (hg : QueueSettings g) (p : Peer) : QueueKept g p (takePeer g p) := by
  by_cases hs : p.queue.state = .playing
  case neg => exact (takePeer_of_not_playing g hs).symm ▸ .refl g p
  cases hc : p.queue.cursor with
  | none => exact (takePeer_of_no_cursor g hc).symm ▸ .refl g p
  | some c =>
    cases hp : takePlays p.queue c with
    | true =>
      rw [takePeer_of_plays g hs hc hp]
      exact Advances.kept (c := c) ⟨rfl, hs, fun _ => Nat.zero_le _, rfl, _, _, rfl, rfl, rfl, rfl⟩ hg hs hc
    | false =>
      by_cases hcount : p.queue.concealed < 24
      · rw [takePeer_of_conceals g hs hc hp hcount]
        exact Advances.kept (c := c) ⟨rfl, hs, fun _ => hcount, rfl, _, _, rfl, rfl, rfl, rfl⟩ hg hs hc
      · rw [takePeer_of_lapses hg.2 hs hc hp (Nat.le_of_not_lt hcount)]
        exact lapsedPeer_kept hg hs

/-- The row's lapse is that of its take (R91). -/
theorem lapsePeer_queueKept (hg : QueueSettings g) (h : lapseDue p.queue = true) : QueueKept g p (lapsePeer p) := by
  obtain ⟨c, hs, hc, -, hcount⟩ := (lapseDue_iff _).1 h
  exact lapsePeer_of_due hs hc hcount ▸ lapsedPeer_kept hg hs

/-- A close sets the correction of a PLAYING queue and its sums to 0, whatever was summed (R104). -/
theorem closeWindow_kept (hg : QueueSettings g) (hs : p.queue.state = .playing) (d : DriftSums) :
    QueueKept g p (closeWindow g { p with drift := d }) := by
  refine ⟨fun ⟨hentry, hidle, hpriming, hplaying, _, hslots⟩ => ?_, fun _ => id, fun _ _ => ⟨hg.2, Nat.le_refl 0⟩⟩
  exact ⟨hentry, hidle, hpriming, hplaying, fun h => absurd hs h, hslots⟩

theorem closeAtTake_kept (hg : QueueSettings g) (h : windowCloses g p = true) : QueueKept g p (closeAtTake g p) := by
  have hs : p.queue.state = .playing := by
    by_contra hs
    simp [windowCloses, takeCursor_of_not_playing hs] at h
  unfold closeAtTake
  split
  · exact closeWindow_kept hg hs _
  · exact closeWindow_kept hg hs p.drift

end Takes

/-! ## Flushes and the table's share (R53, R60 to R65, R76, R99) -/

section Flushes

variable {g : Settings} (hg : QueueSettings g) (p : Peer)
include hg

theorem flushIfActive_kept : QueueKept g p (flushIfActive p) := by
  rw [flushIfActive_eq]
  split
  · exact .refl g p
  · exact .of_primed hg ‹_› rfl rfl rfl

theorem forgetPeer_kept : QueueKept g p (forgetPeer p) :=
  .of_flushed hg ⟨rfl, rfl, rfl, rfl, rfl, rfl⟩ (by simp [forgetPeer]) fun _ => by simp [forgetPeer, Entry.powerOn]

theorem goesStale_queueKept : QueueKept g p (goesStale p) :=
  .of_flushed hg ⟨rfl, rfl, rfl, rfl, rfl, rfl⟩ (by simp [goesStale]) fun _ => by simp [goesStale]

omit hg in
theorem freeEntry_queueKept (h : p.entry.state ≠ .admitted) : QueueKept g p { p with entry := freeEntry p.entry } :=
  .of_same_queue (by simp [freeEntry, h]) rfl rfl

theorem silenceTick_queueKept : QueueKept g p (silenceTick p) := by
  rcases silenceTick_cases p with ⟨-, e⟩ | ⟨-, -, e⟩ | ⟨-, -, e⟩ | ⟨hs, -, e⟩ <;> rw [e]
  · exact .refl g p
  · exact .of_same_queue Iff.rfl rfl rfl
  · exact goesStale_queueKept hg p
  · exact freeEntry_queueKept p (by rcases hs with h | h <;> simp [h])

/-- An entry whose class changes has its queue primed, unless it is IDLE (R65). -/
theorem afterClass_kept (c : AudioClass) : QueueKept g p (afterClass c p) := by
  unfold afterClass
  split
  · exact .refl g p
  · by_cases hs : p.queue.state = .idle
    · exact .of_same_queue Iff.rfl (if_pos hs) (if_pos hs)
    · exact .of_primed hg hs rfl (if_neg hs) (if_neg hs)

/-- An admission starts the queue in PRIMING, whatever it was (R58, R62). -/
theorem admittedWith_kept (third : Bool) (q : Peer) : QueueKept g p (admittedWith third q) :=
  .of_flushed hg ⟨rfl, rfl, rfl, rfl, rfl, rfl⟩ (by simp [admittedWith, primed])
    fun _ => by simp [admittedWith, primed]

theorem afterLiveness_kept (c : AudioClass) : QueueKept g p (afterLiveness c p) := by
  have hclass := afterClass_kept hg p c
  unfold afterLiveness
  cases hs : p.entry.state with
  | free => exact .of_same_queue (by simp [hs]) rfl rfl
  | heard =>
    simp only []
    split
    · exact hclass.trans (.of_same_queue Iff.rfl rfl rfl)
    · exact admittedWith_kept hg p true _
  | admitted => exact hclass.trans (.of_same_queue Iff.rfl rfl rfl)
  | stale => exact admittedWith_kept hg p false _

theorem entryAfter_kept (f : AirFrame) : QueueKept g p (entryAfter g.targetDepth f p) := by
  have hlive := afterLiveness_kept hg p f.cls
  unfold entryAfter
  split
  · exact hlive
  · exact hlive
  · exact hlive.trans (.of_same_queue Iff.rfl rfl rfl)
  · exact hlive.trans (offerBlock_kept hg _ _)

end Flushes

/-! ## The state as a whole -/

/-- The three invariants of the queues hold of `t` where they hold of `s`. -/
structure QueuesKept (s t : State) : Prop where
  sound : QueuesSound s → QueuesSound t
  order : SlotsInSequence s → SlotsInSequence t
  sums : DriftSound s → DriftSound t

section Moves

variable {s t u : State}

theorem QueuesKept.trans (h : QueuesKept s u) (k : QueuesKept u t) : QueuesKept s t :=
  ⟨k.sound ∘ h.sound, k.order ∘ h.order, k.sums ∘ h.sums⟩

/-- Every peer's queue has come from a peer's queue, its own or that of a record that has moved. -/
theorem QueuesKept.of_peers (hset : t.settings = s.settings)
    (h : QueueSettings s.settings → ∀ k : Station, ∃ j : Station, QueueKept s.settings (peerAt s j) (peerAt t k)) :
    QueuesKept s t := by
  have hsound : QueuesSound s → QueuesSound t := fun ⟨hdepth, hlength, hs⟩ => by
    rw [QueuesSound, hset]
    refine ⟨hdepth, hlength, fun k => ?_⟩
    obtain ⟨j, hj⟩ := h ⟨hdepth, hlength⟩ k
    exact hj.sound (hs j)
  refine ⟨hsound, fun ⟨hs, ho⟩ => ⟨hsound hs, fun k => ?_⟩, fun ⟨hs, hd⟩ => ⟨hsound hs, fun k => ?_⟩⟩
  all_goals
    obtain ⟨hdepth, hlength, hall⟩ := hs
    obtain ⟨j, hj⟩ := h ⟨hdepth, hlength⟩ k
  · exact hj.order (hall j) (ho j)
  · rw [hset]
    exact hj.sums (hall j) (hd j)

theorem QueuesKept.of_each (hset : t.settings = s.settings)
    (h : QueueSettings s.settings → ∀ k : Station, QueueKept s.settings (peerAt s k) (peerAt t k)) : QueuesKept s t :=
  .of_peers hset fun hg k => ⟨k, h hg k⟩

theorem QueuesKept.of_eq (hset : t.settings = s.settings) (hp : t.peers = s.peers) : QueuesKept s t :=
  .of_each hset fun _ k => (peerAt_congr hp k).symm ▸ .refl _ _

theorem QueuesKept.setFlag (h : QueuesKept s t) (f : Flag) : QueuesKept s (setFlag f t) := h.trans (.of_eq rfl rfl)

/-- With every peer at its power-on values nothing is left to keep (R55, R74, R101). -/
theorem QueuesKept.of_powerOn (hg : QueueSettings t.settings) (hp : ∀ k : Station, peerAt t k = Peer.powerOn) :
    QueuesKept s t := by
  obtain ⟨hdepth, hlength⟩ := hg
  have hsound : QueuesSound t := ⟨hdepth, hlength, fun k => by
    simp [QueueSound, hp, Peer.powerOn, Entry.powerOn, Queue.powerOn]⟩
  exact ⟨fun _ => hsound, fun _ => ⟨hsound, fun k => by simp [hp, Peer.powerOn, Queue.powerOn]⟩,
    fun _ => ⟨hsound, fun k => by simp [hp, Peer.powerOn, DriftSums.zero, hlength]⟩⟩

theorem ControlMove.queuesKept (h : ControlMove s t) (hset : t.settings = s.settings) : QueuesKept s t :=
  .of_each hset fun _ k => by
    rcases h.peer k with e | e <;> rw [e]
    · exact .refl _ _
    · exact .of_same_queue Iff.rfl rfl rfl

theorem updatePeer_queuesKept {k : Station} {f : Peer → Peer}
    (h : QueueSettings s.settings → QueueKept s.settings (peerAt s k) (f (peerAt s k))) :
    QueuesKept s (updatePeer k f s) :=
  .of_each (by simp) fun hg j => by
    rw [peerAt_updatePeer]
    split
    · rename_i hjk
      exact hjk ▸ h hg
    · exact .refl _ _

theorem mapPeers_queuesKept {f : Peer → Peer}
    (h : QueueSettings s.settings → ∀ p : Peer, QueueKept s.settings p (f p)) : QueuesKept s (mapPeers f s) :=
  .of_each (by simp) fun hg k => by
    rw [peerAt_mapPeers]
    exact h hg _

theorem recordMoved_queuesKept {j m : Station} (s : State) : QueuesKept s (recordMoved j m s) :=
  .of_peers (by simp [recordMoved]) fun hg k => by
    rw [peerAt_recordMoved]
    split
    · exact ⟨j, .of_flushed hg ⟨rfl, rfl, rfl, rfl, rfl, rfl⟩ (by simp [migratedFrom, Queue.powerOn])
        fun _ => by simp [migratedFrom, freeEntry, Queue.powerOn]⟩
    · split
      · exact ⟨j, .of_same_queue Iff.rfl rfl rfl⟩
      · exact ⟨k, .refl _ _⟩

theorem acceptFrame_queuesKept (f : AirFrame) (s : State) : QueuesKept s (acceptFrame f s) := by
  have hmoved : QueuesKept s (migrationTest f s) := by
    obtain e | ⟨j, -, e⟩ := migrationTest_cases f s <;> rw [e]
    · exact .of_eq rfl rfl
    · exact recordMoved_queuesKept s
  obtain ⟨-, e⟩ | ⟨-, e⟩ := acceptFrame_cases f s <;> rw [e]
  · exact hmoved.trans ((updatePeer_queuesKept fun _ => .of_same_queue Iff.rfl rfl rfl).setFlag .full)
  · have hset : (migrationTest f s).settings = s.settings := by simp
    rw [← hset]
    exact hmoved.trans (updatePeer_queuesKept fun hg => entryAfter_kept hg _ f)

theorem tableTick_queuesKept (s : State) : QueuesKept s (tableTick s) :=
  (mapPeers_queuesKept silenceTick_queueKept).trans (.of_eq (by simp [tableTick]) (by simp [tableTick]))

theorem airTickInOrder_queuesKept (o : Bool) (s : State) : QueuesKept s (airTickInOrder o s) := by
  have hfirst : QueuesKept s (scheduled s) := .of_eq (by simp) (by simp)
  have hcontrol (u : State) : QueuesKept u (controlTick u) := (controlTick_controlMove u).queuesKept (by simp)
  have hlast (u : State) : QueuesKept u (storeTick (windowTick u)) := .of_eq (by simp) (by simp)
  rw [airTickInOrder_eq]
  refine .trans ?_ (hlast _)
  cases o with
  | true => exact (hfirst.trans (hcontrol _)).trans (tableTick_queuesKept _)
  | false => exact (hfirst.trans (tableTick_queuesKept _)).trans (hcontrol _)

theorem airTick_queuesKept (s : State) : QueuesKept s (airTick s) := by
  have hdrawn : QueuesKept s (orderDrawn s) := .of_eq rfl rfl
  exact hdrawn.trans (airTickInOrder_queuesKept (Config.choiceBeforeTimeouts s.tickDraws) _)

theorem takeControl_queuesKept (w : Option (BitVec 16)) (s : State) : QueuesKept s (takeControl w s) :=
  takeControl_induction (P := QueuesKept s) w (.of_eq rfl rfl) (fun _ h => h.trans (.of_eq rfl rfl))
    (fun _ h => h.trans (.of_each (by simp) fun hg k => peerAt_forget _ k ▸ forgetPeer_kept hg _))
    (fun _ h => h.trans (.of_eq (by simp) (by simp))) (fun _ _ h => h.trans (.of_eq rfl rfl))

/-- The levels leave what the takes do to the queues (R84, R119 to R125). -/
theorem peerAt_afterTakes (s : State) (k : Station) :
    (peerAt (afterTakes s) k).entry = (takePeer s.settings (peerAt s k)).entry ∧
    (peerAt (afterTakes s) k).queue = (takePeer s.settings (peerAt s k)).queue ∧
    (peerAt (afterTakes s) k).drift = (takePeer s.settings (peerAt s k)).drift := by
  obtain ⟨hentry, hqueue, hdrift, -⟩ := levelPeers_frame s.settings (takeAll s) k
  simp only [takeAll, Fin.getElem_fin, Vector.getElem_ofFn] at hentry hqueue hdrift
  simpa [afterTakes, peerAt, takenAndLevelled, takeAll] using ⟨hentry, hqueue, hdrift⟩

theorem afterTakes_queuesKept (s : State) : QueuesKept s (afterTakes s) :=
  .of_each (by simp) fun hg k => by
    obtain ⟨hentry, hqueue, hdrift⟩ := peerAt_afterTakes s k
    exact (takePeer_kept hg _).trans (.of_same_queue (by rw [hentry]) hqueue hdrift)

theorem reportStatus_queuesKept (s : State) : QueuesKept s (reportStatus s) := by
  unfold reportStatus
  split
  · exact (updatePeer_queuesKept (f := emptyConditions) fun _ => .of_conditions rfl rfl rfl).trans (.of_eq rfl rfl)
  · exact .of_eq rfl rfl

theorem blockEvent_queuesKept (adi : List Bool) (s : State) : QueuesKept s (blockEvent adi s) := by
  have hhanded (b : Block) (u : State) : QueuesKept u (captureHandover b u) := .of_eq (by simp) (by simp)
  have hmixed (b : Block) (u : State) : QueuesKept u (mixAndReport b u) := by
    refine (afterTakes_queuesKept u).trans (.trans ?_ (reportStatus_queuesKept _))
    exact .of_eq rfl rfl
  exact ((takeControl_queuesKept _ s).trans (hhanded _ _)).trans (hmixed _ _)

theorem markUnlocked_queuesKept (n : Nat) (s : State) : QueuesKept s (markUnlocked n s) := by
  have hlocked : QueuesKept s (lockPort s) :=
    .of_each (by simp) fun hg k => peerAt_lockPort s k ▸ flushIfActive_kept hg _
  unfold markUnlocked
  split
  · exact .of_eq rfl rfl
  · split
    · split
      · exact hlocked
      · exact .of_eq rfl rfl
    · exact .of_eq rfl rfl

/-- The depth and the window that an image gives are in their ranges (R102, R174). -/
theorem settingsOf_queueSettings (image : Image) : QueueSettings (settingsOf image) := by
  unfold settingsOf
  split
  · refine ⟨le_max_left _ _, ?_⟩
    simp only [decodeImage, decodeWindow]
    split_ifs <;> simp
  · decide

theorem powerOn_queuesKept (s : State) : QueuesKept s (powerOn s) :=
  have hdefault : QueueSettings Settings.default := by decide
  .of_powerOn hdefault fun k => (peerAt_congr (s := State.reset) rfl k).trans (peerAt_reset k)

theorem startUp_queuesKept (tag : Tag) (image : Image) (s : State) :
    QueuesKept s (loadTag tag (leavePowerOn (settingsOf image) s)) := by
  refine .of_powerOn ?_ fun k => ?_
  · simpa [leavePowerOn] using settingsOf_queueSettings image
  · rw [peerAt_congr (t := loadTag tag (leavePowerOn (settingsOf image) s)) (s := State.reset) (by simp; rfl),
      peerAt_reset]

theorem judgeFrame_queuesKept (s : State) : QueuesKept s (judgeFrame s) := by
  obtain e | ⟨_, e⟩ | ⟨f, -, -, ⟨-, -, e⟩ | ⟨-, -, -, e⟩ | ⟨-, -, -, e⟩⟩ := judgeFrame_cases s <;> rw [e]
  · exact .of_eq rfl rfl
  · exact .of_eq rfl rfl
  · exact .of_eq (by simp) (by simp)
  · exact (clashPath_controlMove f s).queuesKept (by simp)
  · exact acceptFrame_queuesKept f s

end Moves

/-! ## Every event -/

theorem exec_queuesKept (c : Instr) {s t : State} (he : exec c s = .next t) : QueuesKept s t := by
  have hf := exec_leavesAllBut c he
  have stays : QueuesKept s s := .of_eq rfl rfl
  cases c with
  | resetnLow => exact execResetnLow_cases he ▸ powerOn_queuesKept s
  | startUpReadComplete smi =>
    obtain rfl | ⟨-, ht⟩ := execStartUpReadComplete_cases he
    · exact stays
    · exact ht ▸ startUp_queuesKept _ _ s
  | frameArrival =>
    obtain ⟨-, rfl⟩ | ⟨-, -, rfl⟩ | ⟨-, -, rfl⟩ := execFrameArrival_cases he
    · exact stays
    · exact .of_eq rfl rfl
    · have hended : QueuesKept s (endReception s) := .of_eq rfl rfl
      exact hended.trans (judgeFrame_queuesKept _)
  | airTick =>
    obtain ⟨-, rfl⟩ | ⟨-, rfl⟩ := execAirTick_cases he
    · exact stays
    · exact airTick_queuesKept s
  | listeningPeriodExpiry =>
    obtain rfl | ⟨-, -, rfl⟩ := execListeningPeriodExpiry_cases he
    · exact stays
    · exact (listeningExpiry_controlMove s).queuesKept (by simp)
  | listenOnlyRetry =>
    obtain rfl | ⟨-, -, rfl⟩ := execListenOnlyRetry_cases he
    · exact stays
    · exact (retryChoice_controlMove s).queuesKept (by simp)
  | heardTimeout k =>
    obtain rfl | ⟨-, hs, -, rfl⟩ := execHeardTimeout_cases he
    · exact stays
    · exact updatePeer_queuesKept fun _ => freeEntry_queueKept _ (by simp [hs])
  | stale k =>
    obtain rfl | ⟨-, -, -, rfl⟩ := execStale_cases he
    · exact stays
    · exact updatePeer_queuesKept fun hg => goesStale_queueKept hg _
  | peerLost k =>
    obtain rfl | ⟨-, hs, -, rfl⟩ := execPeerLost_cases he
    · exact stays
    · exact (updatePeer_queuesKept fun _ => freeEntry_queueKept _ (by simp [hs])).setFlag _
  | blockEvent adi =>
    obtain ⟨-, rfl⟩ | ⟨-, rfl⟩ := execBlockEvent_cases he
    · exact stays
    · exact blockEvent_queuesKept adi s
  | queueLapse k =>
    obtain rfl | ⟨-, hd, rfl⟩ := execQueueLapse_cases he
    · exact stays
    · exact (updatePeer_queuesKept fun hg => lapsePeer_queueKept hg hd).setFlag _
  | driftWindowClose k =>
    obtain rfl | ⟨-, hd, rfl⟩ := execDriftWindowClose_cases he
    · exact stays
    · exact updatePeer_queuesKept fun hg => closeAtTake_kept hg hd
  | frameMark n =>
    obtain rfl | ⟨-, -, rfl⟩ | ⟨-, -, rfl⟩ := execFrameMark_cases he
    · exact stays
    · exact markUnlocked_queuesKept n s
    · exact .of_eq (by simp) (by simp)
  | startUp | receptionStart | blankedRxvFall | byteComplete | presenceCountExpiry | offerCountExpiry
  | clashWaitExpiry | windowClose | cbsyRise | cbsyFall | gapExpiry | transmissionEnd | computationComplete
  | missedMark | tagWriteStart | writeTransactionEnd | writeTimeEnd | writeCompletion | portFrameEnd =>
    exact .of_eq (hf.settings (by simp [reaches])) (hf.peers (by simp [reaches]))

/-- Settles O57: every queue comes from a queue by an operation that keeps the three invariants. -/
theorem stepKeepsQueuesSound : Obligations.StepKeepsQueuesSound := by
  intro s t he
  unfold step at he
  split at he
  · cases he
    exact ⟨id, id, id⟩
  · obtain ⟨hsound, horder, hsums⟩ := exec_queuesKept _ he
    exact ⟨hsound, horder, hsums⟩

end Sys2Proof.Machine

/-! # The block event begins the next block -/

namespace Sys2Proof.Machine

/-! ## The word reported and the entry it speaks of (R163 to R167) -/

section Report

variable {s t : State}

/-- A status word reads the parts that its layouts name, and no others (R164, R166). -/
theorem statusWord_congr (hscan : t.scanIndex = s.scanIndex) (hsettings : t.settings = s.settings)
    (hcontrol : t.control = s.control) (hpeers : t.peers = s.peers) (hflags : t.flags = s.flags)
    (hheld : t.lap.heldWord = s.lap.heldWord) (hsat : t.engine.lastAccSat = s.engine.lastAccSat)
    (hclip : t.engine.lastOutClip = s.engine.lastOutClip) : statusWord t = statusWord s := by
  have hself : selfWord t = selfWord s := by simp only [selfWord, muted, hcontrol, hheld, hpeers, hsettings]
  have hfirst : flagsAWord t = flagsAWord s := by simp only [flagsAWord, hflags]
  have hsecond : flagsBWord t = flagsBWord s := by simp only [flagsBWord, hflags, hsat, hclip]
  simp only [statusWord, hscan, hself, hfirst, hsecond, peerAt_congr hpeers]

/-- The top four bits of a word are its place in the rotation (R163, R164). -/
theorem statusWord_place (h : s.scanIndex ≤ 10) : (statusWord s).toNat / 4096 = s.scanIndex := by
  by_cases hpeer : 3 ≤ s.scanIndex
  · have hk : s.scanIndex = 3 + (⟨s.scanIndex - 3, by omega⟩ : Station).val := (Nat.add_sub_cancel' hpeer).symm
    rw [statusWord_peer hk, peerWord]
    simp only [toNat_append_fields, BitVec.toNat_ofNat]
    omega
  · obtain hi | hi | hi : s.scanIndex = 0 ∨ s.scanIndex = 1 ∨ s.scanIndex = 2 := by omega
    all_goals rw [statusWord, hi]
    · simp only [selfWord, toNat_append_fields, BitVec.toNat_ofNat]
      omega
    · simp only [flagsAWord, toNat_append_fields, BitVec.toNat_ofNat]
      omega
    · simp only [flagsBWord, toNat_append_fields, BitVec.toNat_ofNat]
      omega

theorem scannedPeer_eq_some_iff (index : Nat) (k : Station) : scannedPeer index = some k ↔ index = 3 + k.val := by
  constructor
  · intro h
    unfold scannedPeer at h
    split at h
    · obtain rfl := Option.some.inj h
      simp only []
      omega
    · cases h
  · rintro rfl
    exact scannedPeer_peer k

/-- A PEER word empties its entry's conditions, and no other word does (R167). -/
theorem peerAt_reportStatus (s : State) (k : Station) :
    peerAt (reportStatus s) k = if s.scanIndex = 3 + k.val then emptyConditions (peerAt s k) else peerAt s k := by
  simp only [← scannedPeer_eq_some_iff]
  unfold reportStatus
  cases hscan : scannedPeer s.scanIndex with
  | none => rfl
  | some j =>
    refine (peerAt_updatePeer k j emptyConditions s).trans ?_
    by_cases hjk : k = j
    · simp [hjk]
    · simp [hjk, Ne.symm hjk]

end Report

/-! ## The stages of a block event (R157) -/

section Stages

variable (b : Block) (s : State)

theorem takeControl_engine (w : Option (BitVec 16)) :
    (takeControl w s).engine = { s.engine with trimStep := (takeControl w s).engine.trimStep } :=
  takeControl_induction (P := fun u => u.engine = { s.engine with trimStep := u.engine.trimStep }) w rfl
    (fun u h => by simpa using h) (fun u h => by simpa using h) (fun u h => by simpa using h)
    (fun _ v h => congrArg (fun e : MixEngine => { e with trimStep := wordTrim v }) h)

theorem holdBlock_flags (b : HeldBlock) :
    (holdBlock b s).flags = { s.flags with superseded := (holdBlock b s).flags.superseded } := by
  unfold holdBlock
  split
  · rfl
  · rw [setFlagIf_flags]
    split <;> rfl

theorem onDataTransmit_flags (b : HeldBlock) :
    (onDataTransmit b s).flags = { s.flags with superseded := (onDataTransmit b s).flags.superseded } := by
  rw [onDataTransmit_eq]
  split
  · rw [placeAudio_flags]
    split <;> rfl
  · rfl

/-- The hand-over sets SUPERSEDED at most (R21, R25). -/
theorem captureHandover_flags :
    (captureHandover b s).flags = { s.flags with superseded := (captureHandover b s).flags.superseded } := by
  cases h : s.settings.cadence with
  | paced =>
    rw [captureHandover_of_paced h, holdBlock_flags]
    rfl
  | onData =>
    rw [captureHandover_of_onData h, onDataTransmit_flags]
    rfl

/-- The hand-over moves the counter, the held block and the audio position (R20, R21, R23). -/
theorem captureHandover_scheduler :
    (captureHandover b s).scheduler =
      { s.scheduler with
        sequence := s.scheduler.sequence + 1
        held := (captureHandover b s).scheduler.held
        audio := (captureHandover b s).scheduler.audio } := by
  cases h : s.settings.cadence with
  | paced =>
    rw [captureHandover_of_paced h, holdBlock_scheduler]
    rfl
  | onData =>
    rw [captureHandover_of_onData h, onDataTransmit_scheduler]
    split <;> rfl

theorem afterTakes_flags :
    (afterTakes s).flags = { s.flags with peerLapse := s.flags.peerLapse || anyLapse s } := by
  cases h : anyLapse s <;> simp [afterTakes, setFlagIf_flags, withFlag, h]

theorem mixAndReport_lap :
    (mixAndReport b s).lap =
      { s.lap with
        frameCounter := 0, leadIn := false, assembly := []
        playback := some
          (formPlayback s.settings (mixContent s.engine) b (muted s) (statusWord (afterTakes s))) } := by
  simp [mixAndReport]

theorem mixAndReport_engine :
    (mixAndReport b s).engine = beginEngine (handedInputs s (afterTakes s) b) s.engine := by
  simp [mixAndReport]

theorem mixAndReport_flags : (mixAndReport b s).flags = (afterTakes s).flags := by
  simp [mixAndReport]

theorem mixAndReport_scanIndex :
    (mixAndReport b s).scanIndex = nextScanIndex s.settings.scanLimit s.scanIndex := by
  simp [mixAndReport, reportStatus]

theorem peerAt_mixAndReport (k : Station) :
    peerAt (mixAndReport b s) k =
      if s.scanIndex = 3 + k.val then emptyConditions (peerAt (afterTakes s) k) else peerAt (afterTakes s) k := by
  simp only [mixAndReport, peerAt_reportStatus, afterTakes_frame]
  rfl

/-- A take that brings a concealment count to 25 is one that lapses its queue (R85, R91). -/
theorem anyLapse_iff :
    anyLapse s = true ↔ ∃ (k : Station) (c : Cursor) (j : Nat),
      (peerAt s k).queue.state = .playing ∧ (peerAt s k).queue.cursor = some c ∧ 24 ≤ (peerAt s k).queue.concealed ∧
      j ≤ (c.offset.val + takeLength (peerAt s k).queue.correction - 1) / 64 ∧
      ¬ ∃ x ∈ (peerAt s k).queue.slots, x.seq = c.block + BitVec.ofNat 12 j := by
  have hmissing (q : Queue) (c : Cursor) : takePlays q c = false ↔
      ∃ j : Nat, j ≤ (c.offset.val + takeLength q.correction - 1) / 64 ∧
        ¬ ∃ x ∈ q.slots, x.seq = c.block + BitVec.ofNat 12 j := by
    simp only [← Bool.not_eq_true, takePlays_iff, not_forall, exists_prop]
  have hany : anyLapse s = true ↔ ∃ k : Station, lapseDue (peerAt s k).queue = true := by
    simp [anyLapse, peers_toList]
  simp only [hany, lapseDue_iff, hmissing]
  constructor
  · rintro ⟨k, c, hs, hc, ⟨j, hj, hx⟩, hcount⟩
    exact ⟨k, c, j, hs, hc, hcount, hj, hx⟩
  · rintro ⟨k, c, j, hs, hc, hcount, hj, hx⟩
    exact ⟨k, c, hs, hc, ⟨j, hj, hx⟩, hcount⟩

/-- The peers after a block event: their takes, with the conditions of the entry reported emptied (R84, R167). -/
theorem mixAndReport_peer (k : Station) :
    (peerAt (mixAndReport b s) k).entry =
      (if s.scanIndex = 3 + k.val then
        { (takePeer s.settings (peerAt s k)).entry with conditions := Conditions.empty }
      else (takePeer s.settings (peerAt s k)).entry) ∧
    (peerAt (mixAndReport b s) k).queue = (takePeer s.settings (peerAt s k)).queue ∧
    (peerAt (mixAndReport b s) k).drift = (takePeer s.settings (peerAt s k)).drift := by
  obtain ⟨hentry, hqueue, hdrift⟩ := peerAt_afterTakes s k
  rw [peerAt_mixAndReport]
  split
  · exact ⟨congrArg (fun e : Entry => { e with conditions := Conditions.empty }) hentry, hqueue, hdrift⟩
  · exact ⟨hentry, hqueue, hdrift⟩

/-- The word reported is that of the state the takes leave, before its entry's conditions are emptied (R165). -/
theorem statusWord_afterTakes :
    statusWord (afterTakes s) = statusWord { mixAndReport b s with
      scanIndex := s.scanIndex
      peers := Vector.ofFn fun k =>
        { peerAt (mixAndReport b s) k with entry := (takePeer s.settings (peerAt s k)).entry } } := by
  refine Eq.symm (statusWord_congr (by simp) (by simp) (by simp) (peers_ext fun k => ?_) (mixAndReport_flags b s)
    (by simp [mixAndReport_lap]) (by simp [mixAndReport_engine, beginEngine])
    (by simp [mixAndReport_engine, beginEngine]))
  have hentry := (peerAt_afterTakes s k).1
  refine (show _ = ({ peerAt (mixAndReport b s) k with entry := (takePeer s.settings (peerAt s k)).entry } : Peer) by
    simp [peerAt]).trans ?_
  rw [peerAt_mixAndReport, ← hentry]
  split <;> rfl

end Stages

/-- Settles O46: the control word, the hand-over and then the takes, of which the word is reported. -/
theorem blockEventBeginsTheNextBlock : Obligations.BlockEventBeginsTheNextBlock := by
  intro adi s hl hf c mute mix capture taken
  obtain ⟨h, hh⟩ : ∃ h, h = captureHandover (completedCapture adi s) c := ⟨_, rfl⟩
  have hexec : exec (.blockEvent adi) s = .next (mixAndReport (completedCapture adi s) h) :=
    hh ▸ exec_blockEvent ⟨hl, hf⟩ adi
  have hsettings : h.settings = s.settings := by simp [hh, c]
  have hscan : h.scanIndex = s.scanIndex := by simp [hh, c]
  have hlap : h.lap = c.lap := by simp [hh]
  have hengine : h.engine = c.engine := by simp [hh]
  have hpeer (k : Station) : peerAt h k = peerAt c k := peerAt_congr (by simp [hh]) k
  have htrim : c.engine = { s.engine with trimStep := c.engine.trimStep } := takeControl_engine s _
  have hsat : c.engine.lastAccSat = s.engine.lastAccSat := by rw [htrim]
  have hclip : c.engine.lastOutClip = s.engine.lastOutClip := by rw [htrim]
  have hmix : mixContent h.engine = mix := by
    rw [hengine, htrim]
    cases hs : s.engine.state <;> cases hr : s.engine.ready <;> simp [mixContent, mix, hs, hr, zeroBlock]
  have hlane (content : LaneContent) :
      laneBlock content (mixContent h.engine) (completedCapture adi s) (muted h) (statusWord (afterTakes h)) =
        match content with
        | .mix => mix
        | .capture => capture
        | .status => Vector.replicate 64 (statusWord (afterTakes h))
        | .zero => Vector.replicate 64 0 := by
    have hmute : muted h = mute := congrArg (fun l : Lap => wordMute l.heldWord) hlap
    rw [hmix, hmute]
    cases content <;> rfl
  have hpeers (k : Station) := mixAndReport_peer (completedCapture adi s) h k
  have hflags : h.flags = { c.flags with superseded := h.flags.superseded } := hh ▸ captureHandover_flags _ c
  have hreport := statusWord_afterTakes (completedCapture adi s) h
  have hbegun := mixAndReport_engine (completedCapture adi s) h
  simp only [hsettings, hscan, hpeer] at hpeers hreport
  refine ⟨_, statusWord (afterTakes h), _, _, hexec, ?_, hlane s.settings.lane0Content, hlane s.settings.lane1Content,
    fun hi => ?_, hreport, fun k => (hpeers k).1, ?_, ?_, ?_, ?_⟩
  · rw [mixAndReport_lap, hlap, hsettings]
    rfl
  · rw [statusWord_place (by simpa [hscan] using hi)]
    simp [hscan]
  · rw [mixAndReport_flags, afterTakes_flags, hflags]
  · rw [mixAndReport_flags, afterTakes_flags, hflags]
    simp only [Bool.or_eq_true, anyLapse_iff, hpeer]
  · rw [mixAndReport_scanIndex, hsettings, hscan]
    rfl
  · rw [hbegun, hengine]
    refine ⟨rfl, rfl, rfl, rfl, rfl, rfl, rfl, rfl, hsat, hclip, fun k => ?_, ?_, by simp [hh], by simp [hh],
      by simp [hh, c], by simp [hh, c], by simp [hh, c], by simp [hh, c], by simp [hh, c]⟩
    · obtain ⟨hentry, hqueue, hdrift⟩ := hpeers k
      obtain ⟨x, hx⟩ := takePeer_entry s.settings (peerAt c k)
      rw [hx] at hentry
      refine ⟨hqueue, hdrift, ?_, ?_⟩ <;>
      · rw [hentry]
        split <;> rfl
    · have hsequence : c.scheduler.sequence = s.scheduler.sequence := by simp [c]
      have hscheduler := captureHandover_scheduler (completedCapture adi s) c
      rw [← hh, hsequence] at hscheduler
      simpa using hscheduler

end Sys2Proof.Machine

/-! # Levels, shares and the ramp -/

namespace Sys2Proof.Machine

/-! ## Metering and smoothing (R119, R120) -/

/-- The magnitude of -32768 is counted as 32767, and that of any other sample is its own (R119). -/
theorem magnitude_eq (x : Sample) : magnitude x = if x.toInt = -32768 then 32767 else x.toInt.natAbs := by
  have hlow := BitVec.le_toInt x
  have hhigh := BitVec.toInt_lt (x := x)
  unfold magnitude
  split <;> omega

/-- The mean of 64 magnitudes of at most 32767 is no greater (R119). -/
theorem meterLevel_le (floor : Nat) (b : Block) : meterLevel floor b ≤ 32767 := by
  have hsum : (b.toList.map magnitude).sum ≤ 64 * 32767 := by
    simpa using List.sum_le_card_nsmul (b.toList.map magnitude) 32767 fun m hm => by
      obtain ⟨x, -, rfl⟩ := List.mem_map.1 hm
      exact min_le_left _ _
  simp only [meterLevel]
  split <;> omega

/-- A rising level moves up by half the distance, a falling one down by a sixteenth of it (R120). -/
theorem smoothLevel_of_lt {l s : Nat} (h : s < l) : smoothLevel l s = s + (l - s) / 2 := by
  simp only [smoothLevel]
  split <;> omega

theorem smoothLevel_of_le {l s : Nat} (h : l ≤ s) : (smoothLevel l s : Int) = (s : Int) + ((l : Int) - s) / 16 := by
  simp only [smoothLevel]
  split <;> omega

/-- The smoothed level stays between the block level and where it stood (R120). -/
theorem smoothLevel_between (l s : Nat) : min l s ≤ smoothLevel l s ∧ smoothLevel l s ≤ max l s := by
  rcases Nat.lt_or_ge s l with h | h
  · rw [smoothLevel_of_lt h]
    omega
  · have := smoothLevel_of_le h
    omega

/-- Settles O26. -/
theorem levelsAreMeanMagnitudesSmoothed : Obligations.LevelsAreMeanMagnitudesSmoothed := by
  refine ⟨fun floor b => ⟨?_, meterLevel_le floor b⟩, fun l s => ?_⟩
  · simp only [meterLevel, funext magnitude_eq]
  · obtain ⟨hlow, hhigh⟩ := smoothLevel_between l s
    refine ⟨smoothLevel_of_lt, smoothLevel_of_le, hlow, hhigh, fun h => ?_⟩
    have := smoothLevel_of_le h.le
    omega

/-! ## The NEAR shares (R123, R124) -/

/-- Dividing each of a list by `d` loses less than one for each (R123). -/
theorem sum_map_div_bounds {d : Nat} (hd : 0 < d) (l : List Nat) :
    (l.map (· / d)).sum * d ≤ l.sum ∧ l.sum + l.length ≤ ((l.map (· / d)).sum + l.length) * d := by
  induction l with
  | nil => simp
  | cons a rest ih =>
    have hlow := Nat.div_mul_le_self a d
    have hhigh := Nat.lt_div_mul_add hd (a := a)
    simp only [List.map_cons, List.sum_cons, List.length_cons, Nat.add_mul, Nat.one_mul] at ih ⊢
    omega

/-- The target gains of NEAR inputs with these smoothed levels (R123, R124). -/
abbrev nearShares (b : Nat) (levels : List Nat) : List Nat :=
  levels.map fun own => nearTarget b levels.sum levels.length own

section Shares

variable {b : Nat} {levels : List Nat}

theorem nearShares_of_pos (h : 0 < levels.sum) : nearShares b levels = levels.map fun own => b * own / levels.sum :=
  List.map_congr_left fun _ _ => if_pos h

/-- With a total of 0 the inputs share alike (R124). -/
theorem nearShares_of_zero (h : levels.sum = 0) :
    nearShares b levels = List.replicate levels.length (b / levels.length) := by
  simp [nearShares, nearTarget, h, List.map_const']

/-- A share of a level that is part of the total is no more than the whole (R123, R124). -/
theorem nearTarget_le {total own : Nat} (h : own ≤ total) (count : Nat) : nearTarget b total count own ≤ b := by
  unfold nearTarget
  split
  · exact Nat.div_le_of_le_mul (by rw [Nat.mul_comm total]; exact Nat.mul_le_mul_left b h)
  · exact Nat.div_le_self _ _

/-- The shares sum to the whole at most, and fall short of it by less than one for each input (R123, R124). -/
theorem nearShares_sum (h : levels ≠ []) :
    (nearShares b levels).sum ≤ b ∧ b < (nearShares b levels).sum + levels.length := by
  have hcount := List.length_pos_iff.2 h
  rcases Nat.eq_zero_or_pos levels.sum with hz | hpos
  · have hlow := Nat.mul_div_le b levels.length
    have hhigh := Nat.lt_mul_div_succ b hcount
    rw [nearShares_of_zero hz, List.sum_replicate, smul_eq_mul]
    rw [Nat.mul_add_one] at hhigh
    exact ⟨hlow, hhigh⟩
  · obtain ⟨hlow, hhigh⟩ := sum_map_div_bounds hpos (levels.map (b * ·))
    have hwhole : (levels.map (b * ·)).sum = b * levels.sum := by simpa using List.sum_map_mul_left levels id b
    rw [List.map_map, List.length_map, hwhole] at hhigh
    rw [List.map_map, hwhole] at hlow
    rw [nearShares_of_pos hpos]
    exact ⟨Nat.le_of_mul_le_mul_right hlow hpos,
      Nat.lt_of_mul_lt_mul_right ((Nat.lt_add_of_pos_right hcount).trans_le hhigh)⟩

end Shares

/-! ## The ramp (R125) -/

/-- Settles O27: the shares by whether the total is above 0, the ramp by the distance to the target. -/
theorem sharesAndRampKeepTheGains : Obligations.SharesAndRampKeepTheGains := by
  refine ⟨fun b levels hne => ?_, fun target r => ?_⟩
  · intro targets
    obtain ⟨hsum, hshort⟩ := nearShares_sum (b := b) hne
    refine ⟨fun t ht => ?_, hsum, hshort, nearShares_of_pos, fun hz t ht => ?_, fun hone => ?_⟩
    · obtain ⟨own, hown, rfl⟩ := List.mem_map.1 ht
      exact nearTarget_le (List.le_sum_of_mem hown) _
    · have hequal : targets = List.replicate levels.length (b / levels.length) := nearShares_of_zero hz
      exact List.eq_of_mem_replicate (hequal ▸ ht)
    · obtain ⟨own, rfl⟩ := List.length_eq_one_iff.1 hone
      have hlone : nearTarget b own 1 own = b := by
        unfold nearTarget
        split
        · exact Nat.mul_div_cancel _ ‹_›
        · exact Nat.div_one b
      simpa [targets] using hlone
  · refine ⟨rfl, rfl, rfl, fun ⟨hup, hdown⟩ => ?_, fun hfar => ?_, fun hfar => ?_, fun ht ha => rampGain_le ha ht⟩
    all_goals
      simp only [rampTo, rampGain]
      split <;> omega

end Sys2Proof.Machine

/-! # The inputs of the mix at a block event -/

namespace Sys2Proof.Machine

/-! ## What a take does to a record (R84, R91, R118) -/

/-- A take leaves the record and the state of its queue, or lapses the queue and sets the record to 0. -/
theorem takePeer_record_cases (g : Settings) (p : Peer) :
    ((takePeer g p).record = p.record ∧ (takePeer g p).queue.state = p.queue.state) ∨
    ((takePeer g p).record = InputRecord.zero ∧ (takePeer g p).queue.state = .priming) := by
  obtain ⟨-, e⟩ | ⟨c, -, -, ⟨-, e⟩ | ⟨-, e⟩⟩ := takePeer_cases g p <;> rw [e]
  · exact .inl ⟨rfl, rfl⟩
  · rw [closeWindowIfDue_eq]
    exact .inl ⟨rfl, rfl⟩
  · rw [closeWindowIfDue_eq, concealPeer]
    obtain ⟨-, e⟩ | ⟨-, e⟩ := lapseIfDue_cases (withConditions (concealCondition (depthSampled p).queue c.block)
      { depthSampled p with queue := queueConcealed c (depthSampled p).queue }) <;> rw [e]
    · exact .inr ⟨rfl, rfl⟩
    · exact .inl ⟨rfl, rfl⟩

theorem takePeer_of_still_playing {g : Settings} {p : Peer} (h : (takePeer g p).queue.state = .playing) :
    (takePeer g p).record = p.record ∧ p.queue.state = .playing := by
  obtain ⟨hr, hs⟩ | ⟨-, hs⟩ := takePeer_record_cases g p
  · exact ⟨hr, hs.symm.trans h⟩
  · simp [hs] at h

/-- A sound queue that is PLAYING gives a block (R75, R84). -/
theorem takeOutput_of_sound {depth : Nat} {p : Peer} (h : QueueSound depth p) (hs : p.queue.state = .playing) :
    ∃ out : Block, takeOutput p.queue = some out := by
  obtain ⟨-, -, -, hplaying, -⟩ := h
  obtain ⟨c, hc⟩ := Option.isSome_iff_exists.1 (hplaying hs).1
  exact ⟨_, by rw [takeOutput, (takeCursor_eq_some_iff _ c).2 ⟨hs, hc⟩]⟩

/-! ## Which inputs are gathered (R115) -/

/-- A peer is in the mix while its entry is ADMITTED and its queue PLAYING (R115). -/
def inMix (p : Peer) : Bool := p.entry.state == .admitted && p.queue.state == .playing

theorem inMix_iff (p : Peer) : inMix p = true ↔ p.entry.state = .admitted ∧ p.queue.state = .playing := by
  simp [inMix]

theorem gatheredBlock_eq_some_iff (t : Taken) (out : Block) :
    gatheredBlock t = some out ↔ inMix t.peer = true ∧ t.output = some out := by
  rw [inMix_iff]
  unfold gatheredBlock
  split <;> simp [*]

@[simp] theorem gatheredBlock_rampTaken (g : Settings) (total count : Nat) (t : Taken) :
    gatheredBlock (rampTaken g total count t) = gatheredBlock t := by
  simp [gatheredBlock]

@[simp] theorem gatheredNear_meterTaken (floor : Nat) (t : Taken) :
    gatheredNear (meterTaken floor t) = gatheredNear t := by
  simp [gatheredNear]

theorem gatheredNear_iff (t : Taken) :
    gatheredNear t = true ↔ (∃ out : Block, gatheredBlock t = some out) ∧ t.peer.entry.cls = .near := by
  simp [gatheredNear, Option.isSome_iff_exists]

section Levels

variable (b : Block) (s : State) (k : Station)

/-- A peer after the take of a block event, with the block the take gave (R84). -/
def takenAt : Taken := { peer := takePeer s.settings (peerAt s k), output := takeOutput (peerAt s k).queue }

/-- The record that the ramp finds: metered where the input is NEAR (R119). -/
def meteredAt : InputRecord := (meterTaken s.settings.gateFloor (takenAt s k)).peer.record

/-- The NEAR inputs of a block event, by ascending number (R115). -/
def nearInputs : List Station := (List.finRange 8).filter fun k => gatheredNear (takenAt s k)

/-- The smoothed levels that the NEAR inputs share by (R123). -/
def nearLevels : List Nat := (nearInputs s).map fun k => (meteredAt s k).smoothed

theorem nearTotal_ofFn (ts : Station → Taken) :
    nearTotal (Vector.ofFn ts) =
      (((List.finRange 8).filter fun k => gatheredNear (ts k)).map fun k => (ts k).peer.record.smoothed).sum := by
  rw [nearTotal, Vector.toList_ofFn, List.ofFn_eq_map, List.filter_map, List.map_map]
  rfl

theorem nearCount_ofFn (ts : Station → Taken) :
    nearCount (Vector.ofFn ts) = ((List.finRange 8).filter fun k => gatheredNear (ts k)).length := by
  rw [nearCount, Vector.toList_ofFn, List.ofFn_eq_map, List.filter_map, List.length_map]
  rfl

/-- Each input of a block event is metered and then ramped, by the levels metered at this event (R119 to R125). -/
theorem takenAndLevelled_getElem :
    (takenAndLevelled s)[k] =
      rampTaken s.settings (nearLevels s).sum (nearLevels s).length
        (meterTaken s.settings.gateFloor (takenAt s k)) := by
  have hall : takeAll s = Vector.ofFn (takenAt s) := rfl
  simp [takenAndLevelled, levelPeers, nearTotal_ofFn, nearCount_ofFn, hall, nearLevels, nearInputs, meteredAt]

theorem peerAt_afterTakes_eq : peerAt (afterTakes s) k = (takenAndLevelled s)[k].peer := by
  simp [afterTakes, peerAt]

variable {s k}

/-- The record of a NEAR input is metered over the block of its take (R119, R120). -/
theorem meteredAt_of_near {out : Block} (h : gatheredBlock (takenAt s k) = some out)
    (hc : (takePeer s.settings (peerAt s k)).entry.cls = .near) :
    meteredAt s k = meterRecord s.settings.gateFloor out (peerAt s k).record := by
  obtain ⟨hs, -⟩ := (gatheredBlock_eq_some_iff _ _).1 h
  obtain ⟨hr, -⟩ := takePeer_of_still_playing ((inMix_iff _).1 hs).2
  rw [← hr, meteredAt, meterTaken, h, show (takenAt s k).peer.entry.cls = .near from hc]
  rfl

/-- The record of a FAR input is not metered (R119). -/
theorem meteredAt_of_far {out : Block} (h : gatheredBlock (takenAt s k) = some out)
    (hc : (takePeer s.settings (peerAt s k)).entry.cls = .far) : meteredAt s k = (peerAt s k).record := by
  obtain ⟨hs, -⟩ := (gatheredBlock_eq_some_iff _ _).1 h
  obtain ⟨hr, -⟩ := takePeer_of_still_playing ((inMix_iff _).1 hs).2
  rw [← hr, meteredAt, meterTaken, h, show (takenAt s k).peer.entry.cls = .far from hc]
  rfl

/-- The record of a peer that is not gathered is what its take left (R118, R119, R125). -/
theorem record_of_not_gathered (h : gatheredBlock (takenAt s k) = none) :
    (peerAt (afterTakes s) k).record = (takePeer s.settings (peerAt s k)).record := by
  rw [peerAt_afterTakes_eq, takenAndLevelled_getElem, rampTaken, gatheredBlock_meterTaken, h, meterTaken, h]
  rfl

/-- The record of a gathered peer takes its ramp step to the target of its class (R122, R125). -/
theorem record_of_gathered {out : Block} (h : gatheredBlock (takenAt s k) = some out) :
    (peerAt (afterTakes s) k).record =
      rampTo (peerTarget s.settings (nearLevels s).sum (nearLevels s).length
        (meterTaken s.settings.gateFloor (takenAt s k)).peer) (meteredAt s k) := by
  rw [peerAt_afterTakes_eq, takenAndLevelled_getElem, rampTaken, gatheredBlock_meterTaken, h]
  rfl

theorem record_of_near {out : Block} (h : gatheredBlock (takenAt s k) = some out)
    (hc : (takePeer s.settings (peerAt s k)).entry.cls = .near) :
    (peerAt (afterTakes s) k).record =
      rampTo (nearTarget s.settings.nearGain (nearLevels s).sum (nearLevels s).length (meteredAt s k).smoothed)
        (meteredAt s k) := by
  have hcls : (meterTaken s.settings.gateFloor (takenAt s k)).peer.entry.cls = .near := by simpa [takenAt] using hc
  rw [record_of_gathered h, peerTarget, hcls]
  rfl

theorem record_of_far {out : Block} (h : gatheredBlock (takenAt s k) = some out)
    (hc : (takePeer s.settings (peerAt s k)).entry.cls = .far) :
    (peerAt (afterTakes s) k).record = rampTo s.settings.farGain (peerAt s k).record := by
  have hcls : (meterTaken s.settings.gateFloor (takenAt s k)).peer.entry.cls = .far := by simpa [takenAt] using hc
  rw [record_of_gathered h, peerTarget, hcls, meteredAt_of_far h hc]

theorem mem_nearInputs_iff : k ∈ nearInputs s ↔
    (∃ out : Block, gatheredBlock (takenAt s k) = some out) ∧ (takePeer s.settings (peerAt s k)).entry.cls = .near := by
  simp [nearInputs, gatheredNear_iff, takenAt]

end Levels

/-! ## The state after a block event (R157) -/

section Events

variable (b : Block) {s : State} {k : Station}

/-- With sound queues the inputs gathered are the peers in the mix after the takes (R75, R115). -/
theorem gathered_of_sound (hq : QueuesSound s) (h : inMix (takePeer s.settings (peerAt s k)) = true) :
    ∃ out : Block, takeOutput (peerAt s k).queue = some out ∧ gatheredBlock (takenAt s k) = some out := by
  obtain ⟨-, -, hall⟩ := hq
  obtain ⟨-, hs⟩ := takePeer_of_still_playing ((inMix_iff _).1 h).2
  obtain ⟨out, hout⟩ := takeOutput_of_sound (hall k) hs
  exact ⟨out, hout, (gatheredBlock_eq_some_iff _ _).2 ⟨h, hout⟩⟩

theorem not_gathered_of_not_inMix (h : inMix (takePeer s.settings (peerAt s k)) = false) :
    gatheredBlock (takenAt s k) = none :=
  Option.eq_none_iff_forall_ne_some.2 fun _ hout => by
    obtain ⟨hmix, -⟩ := (gatheredBlock_eq_some_iff _ _).1 hout
    exact Bool.false_ne_true (h.symm.trans hmix)

variable (s k)

/-- Reporting an entry touches neither what puts its peer in the mix nor its record (R167). -/
theorem mixAndReport_input :
    inMix (peerAt (mixAndReport b s) k) = inMix (takePeer s.settings (peerAt s k)) ∧
    (peerAt (mixAndReport b s) k).entry.cls = (takePeer s.settings (peerAt s k)).entry.cls ∧
    (peerAt (mixAndReport b s) k).record = (peerAt (afterTakes s) k).record := by
  obtain ⟨hentry, hqueue, -⟩ := peerAt_afterTakes s k
  rw [peerAt_mixAndReport]
  split <;> simp [inMix, emptyConditions, hentry, hqueue]

variable {s k}

/-- With sound queues a peer is gathered with the block of its take, where the event leaves it in the mix (R115). -/
theorem gathered_iff_inMix (hq : QueuesSound s) :
    (∃ out : Block, gatheredBlock (takenAt s k) = some out) ↔ inMix (peerAt (mixAndReport b s) k) = true := by
  obtain ⟨emix, -, -⟩ := mixAndReport_input b s k
  rw [emix]
  refine ⟨fun ⟨_, hg⟩ => ((gatheredBlock_eq_some_iff _ _).1 hg).1, fun hm => ?_⟩
  obtain ⟨out, -, hg⟩ := gathered_of_sound hq hm
  exact ⟨out, hg⟩

/-- A NEAR input is metered over the block of its take and takes its share (R119 to R125). -/
theorem mixAndReport_near (hq : QueuesSound s) (hm : inMix (peerAt (mixAndReport b s) k) = true)
    (hc : (peerAt (mixAndReport b s) k).entry.cls = .near) :
    ∃ out : Block, takeOutput (peerAt s k).queue = some out ∧
      meteredAt s k = meterRecord s.settings.gateFloor out (peerAt s k).record ∧
      (peerAt (mixAndReport b s) k).record =
        rampTo (nearTarget s.settings.nearGain (nearLevels s).sum (nearLevels s).length (meteredAt s k).smoothed)
          (meteredAt s k) := by
  obtain ⟨emix, ecls, erecord⟩ := mixAndReport_input b s k
  obtain ⟨out, hout, hg⟩ := gathered_of_sound hq (emix ▸ hm)
  exact ⟨out, hout, meteredAt_of_near hg (ecls ▸ hc), erecord.trans (record_of_near hg (ecls ▸ hc))⟩

/-- A FAR input takes the stored far gain (R122, R125). -/
theorem mixAndReport_far (hq : QueuesSound s) (hm : inMix (peerAt (mixAndReport b s) k) = true)
    (hc : (peerAt (mixAndReport b s) k).entry.cls = .far) :
    (peerAt (mixAndReport b s) k).record = rampTo s.settings.farGain (peerAt s k).record := by
  obtain ⟨emix, ecls, erecord⟩ := mixAndReport_input b s k
  obtain ⟨out, -, hg⟩ := gathered_of_sound hq (emix ▸ hm)
  exact erecord.trans (record_of_far hg (ecls ▸ hc))

theorem mixAndReport_out_of_mix (hm : inMix (peerAt (mixAndReport b s) k) = false) :
    (peerAt (mixAndReport b s) k).record = (takePeer s.settings (peerAt s k)).record := by
  obtain ⟨emix, -, erecord⟩ := mixAndReport_input b s k
  exact erecord.trans (record_of_not_gathered (not_gathered_of_not_inMix (emix ▸ hm)))

/-- The NEAR inputs are the peers that the event leaves in the mix and of class NEAR (R115). -/
theorem nearInputs_eq (hq : QueuesSound s) :
    nearInputs s = (List.finRange 8).filter fun k =>
      inMix (peerAt (mixAndReport b s) k) && (peerAt (mixAndReport b s) k).entry.cls == .near := by
  refine List.filter_congr fun k _ => Bool.eq_iff_iff.2 ?_
  obtain ⟨-, ecls, -⟩ := mixAndReport_input b s k
  rw [gatheredNear_iff, Bool.and_eq_true, gathered_iff_inMix b hq, ecls, beq_iff_eq]
  rfl

/-- What the ramp leaves of the level and sets of the target of a NEAR input (R123, R125). -/
theorem record_of_mem_nearInputs (hk : k ∈ nearInputs s) :
    (peerAt (mixAndReport b s) k).record.smoothed = (meteredAt s k).smoothed ∧
    (peerAt (mixAndReport b s) k).record.target =
      nearTarget s.settings.nearGain (nearLevels s).sum (nearLevels s).length (meteredAt s k).smoothed := by
  obtain ⟨⟨out, hg⟩, hc⟩ := mem_nearInputs_iff.1 hk
  obtain ⟨-, -, erecord⟩ := mixAndReport_input b s k
  rw [erecord, record_of_near hg hc]
  exact ⟨rfl, rfl⟩

theorem nearLevels_eq : nearLevels s = (nearInputs s).map fun k => (peerAt (mixAndReport b s) k).record.smoothed :=
  List.map_congr_left fun _ hk => (record_of_mem_nearInputs b hk).1.symm

theorem nearTargets_eq :
    ((nearInputs s).map fun k => (peerAt (mixAndReport b s) k).record.target) =
      nearShares s.settings.nearGain (nearLevels s) := by
  have hshares : nearShares s.settings.nearGain (nearLevels s) = (nearInputs s).map fun k =>
      nearTarget s.settings.nearGain (nearLevels s).sum (nearLevels s).length (meteredAt s k).smoothed :=
    List.map_map
  exact hshares ▸ List.map_congr_left fun _ hk => (record_of_mem_nearInputs b hk).2

variable (s k)

@[simp] theorem mixAndReport_sidetone : (mixAndReport b s).sidetone = levelSidetone s := by
  simp [mixAndReport, afterTakes]

@[simp] theorem takeControl_lock (w : Option (BitVec 16)) : (takeControl w s).lap.lock = s.lap.lock :=
  takeControl_induction (P := fun u => u.lap.lock = s.lap.lock) w rfl (fun u h => by simpa using h)
    (fun u h => by simpa using h) (fun u h => by simpa using h) (fun _ _ h => h)

/-- The state that the takes of a block event find: the control word taken and the capture block handed over. -/
def handedOver (adi : List Bool) : State :=
  captureHandover (completedCapture adi s) (takeControl (controlWord s.settings adi) s)

variable (adi : List Bool)

theorem blockEvent_eq : blockEvent adi s = mixAndReport (completedCapture adi s) (handedOver s adi) := rfl

@[simp] theorem handedOver_frame :
    (handedOver s adi).settings = s.settings ∧ (handedOver s adi).sidetone = s.sidetone ∧
    (handedOver s adi).lap.lock = s.lap.lock := by
  simp [handedOver]

theorem peerAt_handedOver :
    peerAt (handedOver s adi) k = peerAt (takeControl (controlWord s.settings adi) s) k :=
  peerAt_congr (by simp [handedOver]) k

theorem handedOver_queuesSound (h : QueuesSound s) : QueuesSound (handedOver s adi) := by
  have hhanded : QueuesKept (takeControl (controlWord s.settings adi) s) (handedOver s adi) :=
    .of_eq (by simp) (by simp [handedOver])
  exact hhanded.sound ((takeControl_queuesKept _ s).sound h)

/-- SIDETONE is gathered at a block event of a BUD that the word taken does not mute (R116). -/
theorem sidetoneGathered_handedOver (hl : s.lap.lock = .locked) :
    sidetoneGathered (handedOver s adi) = true ↔
      s.settings.role = .bud ∧ wordMute (blockEvent adi s).lap.heldWord = false := by
  simp [sidetoneGathered, hl, muted, blockEvent_eq]

end Events

/-- A block event in frame 63 of a locked port is the whole event (R157). -/
theorem blockEvent_of_next {adi : List Bool} {s t : State} (hl : s.lap.lock = .locked) (hf : s.lap.frameCounter = 63)
    (he : exec (.blockEvent adi) s = .next t) : t = blockEvent adi s :=
  (Host.Outcome.next.inj ((exec_blockEvent ⟨hl, hf⟩ adi).symm.trans he)).symm

/-- Settles O28: the word and the hand-over leave the state that the inputs are levelled in. -/
theorem blockEventLevelsItsInputs : Obligations.BlockEventLevelsItsInputs := by
  intro adi s t hq hl hf he c mixed near total
  obtain rfl := blockEvent_of_next hl hf he
  obtain ⟨b, h, hh, ht⟩ : ∃ b h, h = handedOver s adi ∧ blockEvent adi s = mixAndReport b h := ⟨_, _, rfl, rfl⟩
  have hsound : QueuesSound h := hh ▸ handedOver_queuesSound s adi hq
  have hsettings : h.settings = s.settings := by simp [hh]
  have hpeer (k : Station) : peerAt h k = peerAt c k := hh ▸ peerAt_handedOver s k adi
  have hnear : nearInputs h = near := by
    rw [nearInputs_eq b hsound, ← ht]
    rfl
  have hlevels : (nearLevels h).sum = total ∧ (nearLevels h).length = near.length := by
    rw [nearLevels_eq b, hnear, ← ht, List.length_map]
    exact ⟨rfl, rfl⟩
  obtain ⟨htotal, hcount⟩ := hlevels
  rw [← hsettings]
  refine ⟨fun k hm hc => ?_, fun k hm hc => ?_, fun k hm => ?_, fun hrole hmute => ?_, fun hout => ?_, ?_⟩
  · rw [ht] at hc ⊢
    obtain ⟨out, hout, hmetered, hrecord⟩ := mixAndReport_near b hsound (ht ▸ hm) hc
    rw [hpeer] at hout hmetered
    refine ⟨out, hout, ?_⟩
    rw [hrecord, htotal, hcount, hmetered]
  · rw [ht] at hc ⊢
    rw [← hpeer]
    exact mixAndReport_far b hsound (ht ▸ hm) hc
  · rw [← hpeer, ht]
    exact mixAndReport_out_of_mix b (ht ▸ hm)
  · have hgathered := (sidetoneGathered_handedOver s adi hl).2 ⟨hsettings ▸ hrole, hmute⟩
    rw [ht, mixAndReport_sidetone, hh, levelSidetone, if_pos hgathered]
    simp
  · have hgathered : ¬ sidetoneGathered (handedOver s adi) = true := fun hg => by
      obtain ⟨hrole, hmute⟩ := (sidetoneGathered_handedOver s adi hl).1 hg
      simp [hsettings, hrole, hmute] at hout
    rw [ht, mixAndReport_sidetone, hh, levelSidetone, if_neg hgathered]
    rfl
  · rw [← hnear, ht, nearTargets_eq]
    by_cases hne : nearLevels h = []
    · simp [hne]
    · exact (nearShares_sum hne).1

end Sys2Proof.Machine

/-! # The inputs handed to a computation -/

namespace Sys2Proof.Machine

section Handed

variable {ts : Vector Taken 8} {i : MixInput} {k : Station}

/-- A peer as it is handed to the engine: its class and number, the block of its take and its applied gain (R129). -/
def handedPeer (p : Peer) (k : Station) (out : Block) : MixInput :=
  { source := .peer p.entry.cls k, block := out, gain := p.record.applied }

/-- SIDETONE as it is handed to the engine: the capture block and the applied gain (R129). -/
def handedSidetone (r : InputRecord) (capture : Block) : MixInput :=
  { source := .sidetone, block := capture, gain := r.applied }

theorem mem_peerInputs_iff : i ∈ peerInputs ts ↔
    ∃ (k : Station) (out : Block), gatheredBlock ts[k] = some out ∧ i = handedPeer ts[k].peer k out := by
  simp [peerInputs, handedPeer, eq_comm]

/-- The peers are handed by ascending number, each once (R129). -/
theorem peerInputs_nodup (ts : Vector Taken 8) : ((peerInputs ts).map MixInput.source).Nodup := by
  rw [peerInputs, List.map_filterMap]
  refine (List.nodup_finRange 8).filterMap fun j k source hj hk => ?_
  simp only [Option.mem_def, Option.map_eq_some_iff, exists_exists_and_eq_and] at hj hk
  obtain ⟨_, -, rfl⟩ := hj
  obtain ⟨_, -, hsource⟩ := hk
  exact (InputSource.peer.inj hsource).2.symm

/-- SIDETONE is handed once where it is gathered, and no peer is (R116, R129). -/
theorem mem_sidetoneInput_iff {s : State} {capture : Block} : i ∈ sidetoneInput s capture ↔
    sidetoneGathered s = true ∧ i = handedSidetone s.sidetone capture := by
  unfold sidetoneInput
  split <;> simp [handedSidetone, *]

@[simp] theorem sidetoneGathered_afterTakes (s : State) : sidetoneGathered (afterTakes s) = sidetoneGathered s := by
  simp [sidetoneGathered, muted]

variable (b : Block) {s : State}

/-- An input of the computation that a block event begins is SIDETONE or a gathered peer (R129). -/
theorem mem_mixAndReport_inputs_iff : i ∈ (mixAndReport b s).engine.inputs ↔
    (sidetoneGathered s = true ∧ i = handedSidetone (mixAndReport b s).sidetone b) ∨
    ∃ (k : Station) (out : Block), gatheredBlock (takenAt s k) = some out ∧
      i = handedPeer (peerAt (mixAndReport b s) k) k out := by
  have hgathered (k : Station) : gatheredBlock (takenAndLevelled s)[k] = gatheredBlock (takenAt s k) := by
    rw [takenAndLevelled_getElem, gatheredBlock_rampTaken, gatheredBlock_meterTaken]
  have hpeer (k : Station) (out : Block) :
      handedPeer (takenAndLevelled s)[k].peer k out = handedPeer (peerAt (mixAndReport b s) k) k out := by
    obtain ⟨hentry, -⟩ := peerAt_afterTakes s k
    obtain ⟨-, ecls, erecord⟩ := mixAndReport_input b s k
    rw [handedPeer, handedPeer, ecls, erecord, ← hentry, peerAt_afterTakes_eq]
  have hsidetone : (afterTakes s).sidetone = (mixAndReport b s).sidetone := by simp [afterTakes]
  simp only [mixAndReport_engine, beginEngine, handedInputs, List.mem_append, mem_sidetoneInput_iff,
    mem_peerInputs_iff, sidetoneGathered_afterTakes, hsidetone, hgathered, hpeer]

theorem mixAndReport_inputs_nodup : ((mixAndReport b s).engine.inputs.map MixInput.source).Nodup := by
  rw [mixAndReport_engine, beginEngine, handedInputs, List.map_append]
  refine List.nodup_append.2 ⟨?_, peerInputs_nodup _, ?_⟩
  · unfold sidetoneInput
    split <;> simp
  · intro x hx y hy
    obtain ⟨i, hi, rfl⟩ := List.mem_map.1 hx
    obtain ⟨j, hj, rfl⟩ := List.mem_map.1 hy
    obtain ⟨-, rfl⟩ := mem_sidetoneInput_iff.1 hi
    obtain ⟨k, out, -, rfl⟩ := mem_peerInputs_iff.1 hj
    simp [handedPeer, handedSidetone]

end Handed

/-- Settles O47: an input of the computation is SIDETONE or a gathered peer, and each source says which. -/
theorem computationTakesThePlayingPeersAndSidetone : Obligations.ComputationTakesThePlayingPeersAndSidetone := by
  intro adi s t hq hl hf he
  obtain rfl := blockEvent_of_next hl hf he
  have hsound := handedOver_queuesSound s adi hq
  have hsidetone := sidetoneGathered_handedOver s adi hl
  simp only [← peerAt_handedOver, blockEvent_eq] at hsidetone ⊢
  generalize handedOver s adi = h at hsound hsidetone ⊢
  generalize completedCapture adi s = b at hsidetone ⊢
  refine ⟨fun k cls => ?_, fun k cls i hi hsource => ?_, ?_, fun i hi hsource => ?_, mixAndReport_inputs_nodup b⟩
  · rw [← and_assoc, ← inMix_iff, ← gathered_iff_inMix b hsound]
    constructor
    · rintro ⟨i, hi, hsource⟩
      obtain ⟨-, rfl⟩ | ⟨j, out, hg, rfl⟩ := (mem_mixAndReport_inputs_iff b).1 hi
      · cases hsource
      · obtain ⟨hcls, rfl⟩ := InputSource.peer.inj hsource
        exact ⟨⟨out, hg⟩, hcls⟩
    · rintro ⟨⟨out, hg⟩, rfl⟩
      exact ⟨_, (mem_mixAndReport_inputs_iff b).2 (.inr ⟨k, out, hg, rfl⟩), rfl⟩
  · obtain ⟨-, rfl⟩ | ⟨j, out, hg, rfl⟩ := (mem_mixAndReport_inputs_iff b).1 hi
    · cases hsource
    · obtain ⟨-, rfl⟩ := InputSource.peer.inj hsource
      exact ⟨rfl, ((gatheredBlock_eq_some_iff _ _).1 hg).2⟩
  · rw [← hsidetone]
    constructor
    · rintro ⟨i, hi, hsource⟩
      obtain ⟨hg, -⟩ | ⟨j, out, -, rfl⟩ := (mem_mixAndReport_inputs_iff b).1 hi
      · exact hg
      · cases hsource
    · exact fun hg => ⟨_, (mem_mixAndReport_inputs_iff b).2 (.inl ⟨hg, rfl⟩), rfl⟩
  · obtain ⟨-, rfl⟩ | ⟨j, out, -, rfl⟩ := (mem_mixAndReport_inputs_iff b).1 hi
    · exact ⟨rfl, rfl⟩
    · cases hsource

end Sys2Proof.Machine

/-! # The levels and gains stay in their ranges -/

namespace Sys2Proof.Machine

/-! ## The parts of sound levels -/

/-- The stored gains lie in their range (R121, R174). -/
abbrev GainsSound (g : Settings) : Prop := g.farGain ≤ 32768 ∧ g.sidetoneGain ≤ 32768 ∧ g.nearGain ≤ 32768

/-- The SIDETONE record, which is 0 while the input is out of the mix (R114, R116, R118). -/
abbrev SidetoneSound (s : State) : Prop :=
  RecordSound s.sidetone ∧
  (s.lap.lock ≠ .locked ∨ wordMute s.lap.heldWord = true ∨ s.settings.role = .gateway →
    s.sidetone = InputRecord.zero)

/-- A peer's record, which is 0 while its queue is not PLAYING (R114, R117, R118). -/
abbrev PeerLevelSound (p : Peer) : Prop :=
  RecordSound p.record ∧ (p.queue.state ≠ .playing → p.record = InputRecord.zero)

theorem levelsSound_iff (s : State) :
    LevelsSound s ↔ GainsSound s.settings ∧ SidetoneSound s ∧ ∀ k : Station, PeerLevelSound (peerAt s k) := by
  simp only [LevelsSound, GainsSound, SidetoneSound, PeerLevelSound, and_assoc]

theorem recordSound_zero : RecordSound InputRecord.zero := by decide

/-! ## What the levels of a block event keep (R119 to R125) -/

section Levels

variable {r : InputRecord}

theorem meterRecord_sound (h : RecordSound r) (floor : Nat) (b : Block) : RecordSound (meterRecord floor b r) := by
  obtain ⟨-, hsmoothed, htarget, happlied⟩ := h
  have hlevel := meterLevel_le floor b
  obtain ⟨-, hbetween⟩ := smoothLevel_between (meterLevel floor b) r.smoothed
  exact ⟨hlevel, hbetween.trans (max_le hlevel hsmoothed), htarget, happlied⟩

theorem rampTo_sound (h : RecordSound r) {target : Nat} (ht : target ≤ 32768) : RecordSound (rampTo target r) := by
  obtain ⟨hlevel, hsmoothed, -, happlied⟩ := h
  exact ⟨hlevel, hsmoothed, ht, rampGain_le happlied ht⟩

variable (b : Block) {s : State}

/-- The record of a gathered peer: a NEAR input's share is that of a level in the total (R122 to R125). -/
theorem gathered_recordSound {k : Station} {out : Block} (hgains : GainsSound s.settings)
    (h : RecordSound (peerAt s k).record) (hg : gatheredBlock (takenAt s k) = some out) :
    RecordSound (peerAt (afterTakes s) k).record := by
  obtain ⟨hfar, -, hnear⟩ := hgains
  cases hc : (takePeer s.settings (peerAt s k)).entry.cls with
  | near =>
    have hown : (meteredAt s k).smoothed ≤ (nearLevels s).sum :=
      List.le_sum_of_mem (List.mem_map_of_mem (mem_nearInputs_iff.2 ⟨⟨out, hg⟩, hc⟩))
    rw [record_of_near hg hc]
    refine rampTo_sound ?_ ((nearTarget_le hown _).trans hnear)
    rw [meteredAt_of_near hg hc]
    exact meterRecord_sound h _ out
  | far =>
    rw [record_of_far hg hc]
    exact rampTo_sound h hfar

theorem mixAndReport_peerLevelSound (hgains : GainsSound s.settings) {k : Station}
    (h : PeerLevelSound (peerAt s k)) : PeerLevelSound (peerAt (mixAndReport b s) k) := by
  obtain ⟨-, hqueue, -⟩ := mixAndReport_peer b s k
  obtain ⟨-, -, erecord⟩ := mixAndReport_input b s k
  obtain ⟨hsound, hzero⟩ := h
  rw [PeerLevelSound, hqueue, erecord]
  cases hg : gatheredBlock (takenAt s k) with
  | none =>
    rw [record_of_not_gathered hg]
    obtain ⟨hr, hs⟩ | ⟨hr, -⟩ := takePeer_record_cases s.settings (peerAt s k)
    · rw [hr, hs]
      exact ⟨hsound, hzero⟩
    · rw [hr]
      exact ⟨recordSound_zero, fun _ => rfl⟩
  | some out =>
    obtain ⟨hmix, -⟩ := (gatheredBlock_eq_some_iff _ _).1 hg
    exact ⟨gathered_recordSound hgains hsound hg, fun hs => absurd ((inMix_iff _).1 hmix).2 hs⟩

/-- SIDETONE makes its ramp step where it is gathered, and is 0 elsewhere (R116, R118, R125). -/
theorem mixAndReport_sidetoneSound (hgains : GainsSound s.settings) (h : RecordSound s.sidetone) :
    SidetoneSound (mixAndReport b s) := by
  obtain ⟨-, hgain, -⟩ := hgains
  rw [SidetoneSound, mixAndReport_sidetone, levelSidetone]
  split
  · rename_i hg
    refine ⟨rampTo_sound h hgain, fun hout => ?_⟩
    simp only [sidetoneGathered, muted, Bool.and_eq_true, beq_iff_eq, Bool.not_eq_true'] at hg
    obtain ⟨⟨hrole, hlock⟩, hmute⟩ := hg
    simp [mixAndReport_lap, hrole, hlock, hmute] at hout
  · exact ⟨recordSound_zero, fun _ => rfl⟩

end Levels

/-! ## What every other event does to a peer's record (R118) -/

/-- The record at `p` has stayed at `q`, where a PLAYING queue has too, or it is 0 there. -/
def RecordKept (p q : Peer) : Prop :=
  q.record = InputRecord.zero ∨ (q.record = p.record ∧ (p.queue.state = .playing → q.queue.state = .playing))

section Kept

variable {p q r : Peer}

theorem RecordKept.of_eq (hr : q.record = p.record) (hs : q.queue.state = p.queue.state) : RecordKept p q :=
  .inr ⟨hr, hs.trans⟩

theorem RecordKept.refl (p : Peer) : RecordKept p p := .of_eq rfl rfl

theorem RecordKept.trans (h : RecordKept p q) (k : RecordKept q r) : RecordKept p r := by
  obtain hz | ⟨hr, hs⟩ := k
  · exact .inl hz
  · obtain hz | ⟨hr', hs'⟩ := h
    · exact .inl (hr.trans hz)
    · exact .inr ⟨hr.trans hr', hs ∘ hs'⟩

theorem RecordKept.sound (h : RecordKept p q) (hp : PeerLevelSound p) : PeerLevelSound q := by
  obtain ⟨hsound, hzero⟩ := hp
  obtain hz | ⟨hr, hs⟩ := h
  · exact ⟨hz ▸ recordSound_zero, fun _ => hz⟩
  · rw [PeerLevelSound, hr]
    exact ⟨hsound, fun hq => hzero (mt hs hq)⟩

theorem offerBlock_recordKept (depth : Nat) (x : Slot) (p : Peer) : RecordKept p (offerBlock depth x p) := by
  obtain ⟨-, e⟩ | ⟨-, -, e⟩ | ⟨w, -, -, ⟨-, -, e⟩ | ⟨-, -, e⟩ | ⟨-, -, e⟩ | ⟨-, e⟩⟩ := offerBlock_cases depth x p <;>
    rw [e]
  · exact .refl p
  · exact .of_eq rfl rfl
  · refine .inr ⟨rfl, fun hs => ?_⟩
    obtain ⟨-, -, e⟩ | ⟨-, e⟩ := enterPlaying_cases depth w { p.queue with slots := insertSlot w x p.queue.slots } <;>
      rw [e]
    exact hs
  · exact .of_eq rfl rfl
  · exact .inl rfl
  · exact .of_eq rfl rfl

theorem afterClass_recordKept (c : AudioClass) (p : Peer) : RecordKept p (afterClass c p) := by
  unfold afterClass
  split
  · exact .refl p
  · exact .inl rfl

theorem afterLiveness_recordKept (c : AudioClass) (p : Peer) : RecordKept p (afterLiveness c p) := by
  have hclass := afterClass_recordKept c p
  unfold afterLiveness
  split
  · exact .of_eq rfl rfl
  · simp only []
    split
    · exact hclass.trans (.of_eq rfl rfl)
    · exact .inl rfl
  · exact hclass.trans (.of_eq rfl rfl)
  · exact .inl rfl

theorem entryAfter_recordKept (depth : Nat) (f : AirFrame) (p : Peer) : RecordKept p (entryAfter depth f p) := by
  have hlive := afterLiveness_recordKept f.cls p
  unfold entryAfter
  split
  · exact hlive
  · exact hlive
  · exact hlive.trans (.of_eq rfl rfl)
  · exact hlive.trans (offerBlock_recordKept _ _ _)

theorem silenceTick_recordKept (p : Peer) : RecordKept p (silenceTick p) := by
  obtain ⟨-, e⟩ | ⟨-, -, e⟩ | ⟨-, -, e⟩ | ⟨-, -, e⟩ := silenceTick_cases p <;> rw [e]
  · exact .refl p
  · exact .of_eq rfl rfl
  · exact .inl rfl
  · exact .of_eq rfl rfl

theorem flushIfActive_recordKept (p : Peer) : RecordKept p (flushIfActive p) := by
  rw [flushIfActive_eq]
  split
  · exact .refl p
  · exact .inl rfl

theorem lapsePeer_recordKept (h : lapseDue p.queue = true) : RecordKept p (lapsePeer p) := by
  obtain ⟨c, hs, hc, -, hcount⟩ := (lapseDue_iff _).1 h
  exact lapsePeer_of_due hs hc hcount ▸ .inl rfl

theorem closeAtTake_recordKept (g : Settings) (p : Peer) : RecordKept p (closeAtTake g p) := by
  unfold closeAtTake
  split <;> exact .of_eq rfl rfl

end Kept

/-- Every peer's record comes from a peer's record, its own or one that has moved (R67). -/
def RecordsKept (s t : State) : Prop := ∀ k : Station, ∃ j : Station, RecordKept (peerAt s j) (peerAt t k)

section Moves

variable {s t u : State}

theorem RecordsKept.of_each (h : ∀ k : Station, RecordKept (peerAt s k) (peerAt t k)) : RecordsKept s t :=
  fun k => ⟨k, h k⟩

theorem RecordsKept.of_eq (h : t.peers = s.peers) : RecordsKept s t :=
  .of_each fun k => (peerAt_congr h k).symm ▸ .refl _

theorem RecordsKept.trans (h : RecordsKept s u) (g : RecordsKept u t) : RecordsKept s t := fun k => by
  obtain ⟨j, hj⟩ := g k
  obtain ⟨i, hi⟩ := h j
  exact ⟨i, hi.trans hj⟩

theorem RecordsKept.sound (h : RecordsKept s t) (hs : ∀ k : Station, PeerLevelSound (peerAt s k)) (k : Station) :
    PeerLevelSound (peerAt t k) := by
  obtain ⟨j, hj⟩ := h k
  exact hj.sound (hs j)

theorem updatePeer_recordsKept {k : Station} {f : Peer → Peer} (h : RecordKept (peerAt s k) (f (peerAt s k))) :
    RecordsKept s (updatePeer k f s) :=
  .of_each fun j => by
    rw [peerAt_updatePeer]
    split
    · rename_i hjk
      exact hjk ▸ h
    · exact .refl _

theorem ControlMove.recordsKept (h : ControlMove s t) : RecordsKept s t :=
  .of_each fun k => by
    obtain ⟨r, e⟩ := h.withRefused k
    exact e ▸ .of_eq rfl rfl

theorem acceptFrame_recordsKept (f : AirFrame) (s : State) : RecordsKept s (acceptFrame f s) := by
  have hmoved : RecordsKept s (migrationTest f s) := by
    obtain e | ⟨j, -, e⟩ := migrationTest_cases f s <;> rw [e]
    · exact .of_eq rfl
    · intro k
      rw [peerAt_recordMoved]
      split
      · exact ⟨j, .inl rfl⟩
      · split
        · exact ⟨j, .of_eq rfl rfl⟩
        · exact ⟨k, .refl _⟩
  refine hmoved.trans ?_
  obtain ⟨-, e⟩ | ⟨-, e⟩ := acceptFrame_cases f s <;> rw [e]
  · exact (updatePeer_recordsKept (f := withRefused true) (.of_eq rfl rfl)).trans (.of_eq rfl)
  · exact updatePeer_recordsKept (entryAfter_recordKept s.settings.targetDepth f _)

theorem judgeFrame_recordsKept (s : State) : RecordsKept s (judgeFrame s) := by
  obtain e | ⟨_, e⟩ | ⟨f, -, -, ⟨-, -, e⟩ | ⟨-, -, -, e⟩ | ⟨-, -, -, e⟩⟩ := judgeFrame_cases s <;> rw [e]
  · exact .of_eq rfl
  · exact .of_eq rfl
  · exact .of_eq (by simp)
  · exact (clashPath_controlMove f s).recordsKept
  · exact acceptFrame_recordsKept f s

theorem airTick_recordsKept (s : State) : RecordsKept s (airTick s) :=
  .of_each fun k => by
    obtain ⟨r, e⟩ := peerAt_airTickInOrder (Config.choiceBeforeTimeouts s.tickDraws) (orderDrawn s) k
    have hrefused (p : Peer) : RecordKept p (withRefused r p) := .of_eq rfl rfl
    exact e ▸ (silenceTick_recordKept (peerAt s k)).trans (hrefused _)

theorem takeControl_recordsKept (w : Option (BitVec 16)) (s : State) : RecordsKept s (takeControl w s) :=
  takeControl_induction (P := RecordsKept s) w (.of_eq rfl) (fun _ h => h.trans (.of_eq rfl))
    (fun _ h => h.trans (.of_each fun k => peerAt_forget _ k ▸ .inl rfl))
    (fun _ h => h.trans (.of_eq (by simp))) (fun _ _ h => h.trans (.of_eq rfl))

theorem handedOver_recordsKept (s : State) (adi : List Bool) : RecordsKept s (handedOver s adi) :=
  (takeControl_recordsKept (controlWord s.settings adi) s).trans (.of_eq (by simp [handedOver]))

theorem markUnlocked_recordsKept (n : Nat) (s : State) : RecordsKept s (markUnlocked n s) := by
  have hlocked : RecordsKept s (lockPort s) := .of_each fun k => peerAt_lockPort s k ▸ flushIfActive_recordKept _
  unfold markUnlocked
  split
  · exact .of_eq rfl
  · split
    · split
      · exact hlocked
      · exact .of_eq rfl
    · exact .of_eq rfl

end Moves

/-- No event but a power-on and a block event changes a record otherwise than to 0 (R118, R125). -/
theorem exec_recordsKept {c : Instr} {s t : State} (he : exec c s = .next t) (hp : ¬ PowersOn c)
    (hb : ∀ adi : List Bool, c ≠ .blockEvent adi) : RecordsKept s t := by
  have hf := exec_leavesAllBut c he
  have stays : RecordsKept s s := .of_eq rfl
  cases c with
  | resetnLow => exact absurd (.inl rfl) hp
  | startUpReadComplete smi => exact absurd (.inr ⟨smi, rfl⟩) hp
  | blockEvent adi => exact absurd rfl (hb adi)
  | frameArrival =>
    obtain ⟨-, rfl⟩ | ⟨-, -, rfl⟩ | ⟨-, -, rfl⟩ := execFrameArrival_cases he
    · exact stays
    · exact .of_eq rfl
    · have hended : RecordsKept s (endReception s) := .of_eq rfl
      exact hended.trans (judgeFrame_recordsKept _)
  | airTick =>
    obtain ⟨-, rfl⟩ | ⟨-, rfl⟩ := execAirTick_cases he
    · exact stays
    · exact airTick_recordsKept s
  | listeningPeriodExpiry =>
    obtain rfl | ⟨-, -, rfl⟩ := execListeningPeriodExpiry_cases he
    · exact stays
    · exact (listeningExpiry_controlMove s).recordsKept
  | listenOnlyRetry =>
    obtain rfl | ⟨-, -, rfl⟩ := execListenOnlyRetry_cases he
    · exact stays
    · exact (retryChoice_controlMove s).recordsKept
  | heardTimeout k =>
    obtain rfl | ⟨-, -, -, rfl⟩ := execHeardTimeout_cases he
    · exact stays
    · exact updatePeer_recordsKept (.of_eq rfl rfl)
  | stale k =>
    obtain rfl | ⟨-, -, -, rfl⟩ := execStale_cases he
    · exact stays
    · exact updatePeer_recordsKept (.inl rfl)
  | peerLost k =>
    obtain rfl | ⟨-, -, -, rfl⟩ := execPeerLost_cases he
    · exact stays
    · exact (updatePeer_recordsKept (f := isLost) (.of_eq rfl rfl)).trans (.of_eq rfl)
  | queueLapse k =>
    obtain rfl | ⟨-, hd, rfl⟩ := execQueueLapse_cases he
    · exact stays
    · exact (updatePeer_recordsKept (lapsePeer_recordKept hd)).trans (.of_eq rfl)
  | driftWindowClose k =>
    obtain rfl | ⟨-, -, rfl⟩ := execDriftWindowClose_cases he
    · exact stays
    · exact updatePeer_recordsKept (closeAtTake_recordKept _ _)
  | frameMark n =>
    obtain rfl | ⟨-, -, rfl⟩ | ⟨-, -, rfl⟩ := execFrameMark_cases he
    · exact stays
    · exact markUnlocked_recordsKept n s
    · exact .of_eq (by simp)
  | startUp | receptionStart | blankedRxvFall | byteComplete | presenceCountExpiry | offerCountExpiry
  | clashWaitExpiry | windowClose | cbsyRise | cbsyFall | gapExpiry | transmissionEnd | computationComplete
  | missedMark | tagWriteStart | writeTransactionEnd | writeTimeEnd | writeCompletion | portFrameEnd =>
    exact .of_eq (hf.peers (by simp [reaches]))

/-! ## SIDETONE outside the block event (R116, R118) -/

section Sidetone

variable {s t : State}

theorem SidetoneSound.of_zero (h : t.sidetone = InputRecord.zero) : SidetoneSound t :=
  ⟨h ▸ recordSound_zero, fun _ => h⟩

theorem SidetoneSound.congr (h : SidetoneSound s) (hset : t.settings = s.settings) (hlock : t.lap.lock = s.lap.lock)
    (hheld : t.lap.heldWord = s.lap.heldWord) (hr : t.sidetone = s.sidetone) : SidetoneSound t := by
  rwa [SidetoneSound, hset, hlock, hheld, hr]

/-- A loss of lock takes SIDETONE out of the mix, and lock comes from a state in which it is out (R118). -/
theorem exec_sidetoneSound {c : Instr} (he : exec c s = .next t) (hp : ¬ PowersOn c)
    (hb : ∀ adi : List Bool, c ≠ .blockEvent adi) (h : SidetoneSound s) : SidetoneSound t := by
  have hf := exec_leavesAllBut c he
  cases c with
  | resetnLow => exact absurd (.inl rfl) hp
  | startUpReadComplete smi => exact absurd (.inr ⟨smi, rfl⟩) hp
  | blockEvent adi => exact absurd rfl (hb adi)
  | frameMark n =>
    obtain rfl | ⟨-, hlock, rfl⟩ | ⟨-, -, rfl⟩ := execFrameMark_cases he
    · exact h
    · have hzero : s.sidetone = InputRecord.zero := h.2 (.inl (by simp [hlock]))
      exact .of_zero (by simp [hzero])
    · by_cases hn : n = frameLength s.settings
      · rwa [markLocked_keeps hn]
      · rw [markLocked_loses hn]
        exact .of_zero rfl
  | missedMark =>
    obtain rfl | ⟨-, -, rfl⟩ | ⟨-, -, rfl⟩ := execMissedMark_cases he
    · exact h
    · exact h.congr rfl rfl rfl rfl
    · exact .of_zero rfl
  | portFrameEnd adi =>
    obtain rfl | ⟨-, -, rfl⟩ := execPortFrameEnd_cases he
    · exact h
    · exact h.congr rfl rfl rfl rfl
  | startUp | receptionStart | blankedRxvFall | byteComplete | frameArrival | airTick | presenceCountExpiry
  | offerCountExpiry | listeningPeriodExpiry | clashWaitExpiry | listenOnlyRetry | windowClose | heardTimeout
  | stale | peerLost | cbsyRise | cbsyFall | gapExpiry | transmissionEnd | queueLapse | driftWindowClose
  | computationComplete | tagWriteStart | writeTransactionEnd | writeTimeEnd | writeCompletion =>
    have hlap := hf.lap (by simp [reaches])
    exact h.congr (hf.settings (by simp [reaches])) (congrArg Lap.lock hlap) (congrArg Lap.heldWord hlap)
      (hf.sidetone (by simp [reaches]))

end Sidetone

/-! ## Every event -/

/-- The gains that an image gives are unity at most (R121, R174). -/
theorem settingsOf_gainsSound (image : Image) : GainsSound (settingsOf image) := by
  unfold settingsOf
  split
  · exact ⟨min_le_left _ _, min_le_left _ _, min_le_left _ _⟩
  · decide

/-- At power-on every record is 0 (R114). -/
theorem levelsSound_of_powerOn {t : State} (hg : GainsSound t.settings) (hside : t.sidetone = InputRecord.zero)
    (hp : t.peers = Vector.replicate 8 Peer.powerOn) : LevelsSound t :=
  (levelsSound_iff t).2 ⟨hg, .of_zero hside, fun k => by
    have hpeer : (peerAt t k).record = InputRecord.zero := by simp [peerAt, hp, Peer.powerOn]
    exact ⟨hpeer ▸ recordSound_zero, fun _ => hpeer⟩⟩

theorem started_levelsSound (image : Image) (s : State) : LevelsSound (started image s) := by
  obtain ⟨hpeers, hside, -⟩ := started_powerOn image s
  exact levelsSound_of_powerOn (started_settings image s ▸ settingsOf_gainsSound image) hside hpeers

theorem blockEvent_levelsSound (adi : List Bool) {s : State} (h : LevelsSound s) : LevelsSound (blockEvent adi s) := by
  obtain ⟨hgains, ⟨hsidetone, -⟩, hpeers⟩ := (levelsSound_iff s).1 h
  obtain ⟨hset, hr, -⟩ := handedOver_frame s adi
  rw [← hset] at hgains
  rw [← hr] at hsidetone
  rw [blockEvent_eq, levelsSound_iff]
  exact ⟨by simpa using hgains, mixAndReport_sidetoneSound _ hgains hsidetone,
    fun k => mixAndReport_peerLevelSound _ hgains ((handedOver_recordsKept s adi).sound hpeers k)⟩

theorem exec_levelsSound {c : Instr} {s t : State} (he : exec c s = .next t) (h : LevelsSound s) : LevelsSound t := by
  rcases Classical.em (PowersOn c) with (rfl | ⟨smi, rfl⟩) | hp
  · have hdefault : GainsSound Settings.default := by decide
    exact execResetnLow_cases he ▸ levelsSound_of_powerOn (t := powerOn s) hdefault rfl rfl
  · obtain rfl | ⟨-, ht⟩ := execStartUpReadComplete_cases he
    · exact h
    · have hstarted : t = started (smiImage smi) s := ht
      exact hstarted ▸ started_levelsSound (smiImage smi) s
  rcases Classical.em (∃ adi : List Bool, c = .blockEvent adi) with ⟨adi, rfl⟩ | hb
  · obtain ⟨-, rfl⟩ | ⟨-, rfl⟩ := execBlockEvent_cases he
    · exact h
    · exact blockEvent_levelsSound adi h
  · have hother (adi : List Bool) : c ≠ .blockEvent adi := fun e => hb ⟨adi, e⟩
    have hset := (exec_leavesAllBut c he).settings (mt (settings_mem_reaches_iff c).1 hp)
    obtain ⟨hgains, hsidetone, hpeers⟩ := (levelsSound_iff s).1 h
    exact (levelsSound_iff t).2 ⟨hset.symm ▸ hgains, exec_sidetoneSound he hp hother hsidetone,
      (exec_recordsKept he hp hother).sound hpeers⟩

/-- Settles O58: outside a power-on and a block event a record stays or becomes 0, and a block event levels each. -/
theorem stepKeepsLevelsSound : Obligations.StepKeepsLevelsSound := by
  intro s t he h
  unfold step at he
  split at he
  · cases he
    exact h
  · exact exec_levelsSound he h

end Sys2Proof.Machine

/-! # The port, the store unit and the scan index stay sound -/

namespace Sys2Proof.Machine

/-! ## The parts of a sound port -/

/-- The LAP's fields agree with its lock state (R146, R153, R155, R158). -/
structure LapSound (l : Lap) : Prop where
  counter : l.frameCounter ≤ 63
  assembled : l.assembly.length = l.frameCounter
  marks : l.markCount ≤ 3
  idle : l.lock ≠ .locked → l.frameCounter = 0 ∧ l.leadIn = false ∧ l.playback = none
  unmarked : l.lock ≠ .unlocked → l.markCount = 0
  silentLeadIn : l.leadIn = true → l.playback = none

/-- While lock is lost no block is ready and none will be, and the trim step is the held word's (R137, R144, R160). -/
structure EngineSound (l : Lap) (e : MixEngine) : Prop where
  unready : l.lock ≠ .locked → e.ready = none
  discarded : l.lock ≠ .locked → e.state = .computing → e.discard = true
  trim : e.trimStep = wordTrim l.heldWord

theorem portSound_iff (s : State) : PortSound s ↔ LapSound s.lap ∧ EngineSound s.lap s.engine := by
  constructor
  · rintro ⟨hcounter, hassembled, hmarks, hidle, hunmarked, hsilent, hunready, hdiscarded, htrim⟩
    exact ⟨⟨hcounter, hassembled, hmarks, hidle, hunmarked, hsilent⟩, hunready, hdiscarded, htrim⟩
  · rintro ⟨⟨hcounter, hassembled, hmarks, hidle, hunmarked, hsilent⟩, hunready, hdiscarded, htrim⟩
    exact ⟨hcounter, hassembled, hmarks, hidle, hunmarked, hsilent, hunready, hdiscarded, htrim⟩

section Port

variable {l m : Lap} {e : MixEngine}

/-! ## What each move of the port does to the LAP (R146, R152 to R158) -/

/-- A MASTER port locks at start-up, and a SLAVE port begins to count marks (R152, R153). -/
theorem startLap_lapSound (clock : ClockSource) : LapSound (startLap clock Lap.powerOn) := by
  cases clock <;> constructor <;> decide

theorem LapSound.locked (h : LapSound l) (hl : l.lock ≠ .locked) : LapSound (lockedLap l) where
  counter := Nat.zero_le _
  assembled := rfl
  marks := Nat.zero_le _
  idle := fun hn => absurd rfl hn
  unmarked := fun _ => rfl
  silentLeadIn := fun _ => (h.idle hl).2.2

theorem unlockedLap_lapSound {n : Nat} (hn : n ≤ 3) (l : Lap) : LapSound (unlockedLap n l) where
  counter := Nat.zero_le _
  assembled := rfl
  marks := hn
  idle := fun _ => ⟨rfl, rfl, rfl⟩
  unmarked := fun hl => absurd rfl hl
  silentLeadIn := fun _ => rfl

/-- Marks are counted in UNLOCKED alone (R153). -/
theorem LapSound.counted (h : LapSound l) (hl : l.lock = .unlocked) {n : Nat} (hn : n ≤ 3) :
    LapSound { l with markCount := n } :=
  { h with marks := hn, unmarked := fun hne => absurd hl hne }

/-- A port frame adds one sample to the capture block (R151, R158). -/
theorem LapSound.captured (h : LapSound l) (hl : l.lock = .locked) (hc : l.frameCounter < 63) (x : Sample) :
    LapSound { l with frameCounter := l.frameCounter + 1, assembly := l.assembly ++ [x] } :=
  { h with
    counter := hc
    assembled := by simp [h.assembled]
    idle := fun hne => absurd hl hne }

/-- A block event begins a block of a locked port (R157, R158). -/
theorem LapSound.begun (h : LapSound l) (hl : l.lock = .locked) (p : Playback) :
    LapSound { l with frameCounter := 0, leadIn := false, assembly := [], playback := some p } :=
  { h with
    counter := Nat.zero_le _
    assembled := rfl
    idle := fun hne => absurd hl hne
    silentLeadIn := nofun }

theorem LapSound.wordHeld (h : LapSound l) (w : BitVec 16) : LapSound { l with heldWord := w } :=
  ⟨h.counter, h.assembled, h.marks, h.idle, h.unmarked, h.silentLeadIn⟩

/-! ## What each move does to the engine (R133, R137, R139, R144) -/

/-- A locked port asks of the engine its trim step alone. -/
theorem EngineSound.of_locked (hl : l.lock = .locked) (htrim : e.trimStep = wordTrim l.heldWord) : EngineSound l e :=
  ⟨fun hne => absurd hl hne, fun hne => absurd hl hne, htrim⟩

/-- The engine reads the port's lock state and held word. -/
theorem EngineSound.congr (h : EngineSound l e) (hlock : m.lock = l.lock) (hheld : m.heldWord = l.heldWord) :
    EngineSound m e :=
  ⟨fun hne => h.unready (hlock ▸ hne), fun hne => h.discarded (hlock ▸ hne), hheld ▸ h.trim⟩

/-- A loss of lock discards the ready block and the block of the computation in flight (R144). -/
theorem EngineSound.lost (htrim : e.trimStep = wordTrim l.heldWord) : EngineSound l (lossEngine e) := by
  rw [lossEngine_eq]
  exact ⟨fun _ => rfl, fun _ hc => if_pos hc, htrim⟩

/-- A computation that lost lock in flight readies nothing (R139, R144). -/
theorem EngineSound.completed (h : EngineSound l e) (hc : e.state = .computing) :
    EngineSound l (completeEngine e) where
  unready := fun hl => by
    have hdiscard := h.discarded hl hc
    simp only [completeEngine, hdiscard, if_true]
    exact h.unready hl
  discarded := fun _ => nofun
  trim := h.trim

end Port

/-! ## The events that reach the port or the engine -/

section Events

variable {s t : State}

theorem PortSound.of_eq (h : PortSound s) (hl : t.lap = s.lap) (he : t.engine = s.engine) : PortSound t := by
  rwa [portSound_iff, hl, he, ← portSound_iff]

theorem started_portSound (image : Image) (s : State) : PortSound (started image s) := by
  have hlap : (started image s).lap = startLap (settingsOf image).clock Lap.powerOn := by
    simp [started, leavePowerOn]
  have hengine : (started image s).engine = MixEngine.powerOn := by
    obtain ⟨-, -, hengine, -⟩ := started_powerOn image s
    exact hengine
  rw [portSound_iff, hlap, hengine]
  refine ⟨startLap_lapSound _, fun _ => rfl, fun _ => nofun, ?_⟩
  cases (settingsOf image).clock <;> decide

/-- A control word changes the held word and the trim step together (R137, R160). -/
theorem takeControl_portSound (w : Option (BitVec 16)) (h : PortSound s) : PortSound (takeControl w s) :=
  takeControl_induction w h (fun u hu => hu.of_eq (by simp) (by simp)) (fun u hu => hu.of_eq (by simp) (by simp))
    (fun u hu => hu.of_eq (by simp) (by simp)) fun u v hu => by
      obtain ⟨hlap, hengine⟩ := (portSound_iff u).1 hu
      exact (portSound_iff _).2 ⟨hlap.wordHeld v, hengine.unready, hengine.discarded, rfl⟩

theorem mixAndReport_portSound (b : Block) (hl : s.lap.lock = .locked) (h : PortSound s) :
    PortSound (mixAndReport b s) := by
  obtain ⟨hlap, hengine⟩ := (portSound_iff s).1 h
  rw [portSound_iff, mixAndReport_lap, mixAndReport_engine]
  exact ⟨hlap.begun hl _, EngineSound.of_locked hl hengine.trim⟩

theorem blockEvent_portSound (adi : List Bool) (hl : s.lap.lock = .locked) (h : PortSound s) :
    PortSound (blockEvent adi s) := by
  have hhanded : PortSound (handedOver s adi) :=
    (takeControl_portSound (controlWord s.settings adi) h).of_eq (by simp [handedOver]) (by simp [handedOver])
  exact mixAndReport_portSound _ (by simpa using hl) hhanded

theorem completed_portSound (hc : s.engine.state = .computing) (h : PortSound s) :
    PortSound { s with engine := completeEngine s.engine } := by
  obtain ⟨hlap, hengine⟩ := (portSound_iff s).1 h
  exact (portSound_iff _).2 ⟨hlap, hengine.completed hc⟩

theorem loseLock_portSound {n : Nat} (hn : n ≤ 3) (h : PortSound s) : PortSound (loseLock n s) := by
  obtain ⟨-, hengine⟩ := (portSound_iff s).1 h
  exact (portSound_iff _).2 ⟨unlockedLap_lapSound hn _, .lost hengine.trim⟩

theorem counted_portSound (hl : s.lap.lock = .unlocked) {n : Nat} (hn : n ≤ 3) (h : PortSound s) :
    PortSound { s with lap := { s.lap with markCount := n } } := by
  obtain ⟨hlap, hengine⟩ := (portSound_iff s).1 h
  exact (portSound_iff _).2 ⟨hlap.counted hl hn, hengine.congr rfl rfl⟩

theorem lockPort_portSound (hl : s.lap.lock ≠ .locked) (h : PortSound s) : PortSound (lockPort s) := by
  obtain ⟨hlap, hengine⟩ := (portSound_iff s).1 h
  exact (portSound_iff _).2 ⟨hlap.locked hl, .of_locked rfl hengine.trim⟩

/-- A mark in UNLOCKED begins a run, makes it longer, or locks the port (R153). -/
theorem markUnlocked_portSound (n : Nat) (hl : s.lap.lock = .unlocked) (h : PortSound s) :
    PortSound (markUnlocked n s) := by
  by_cases hbegins : s.lap.markCount = 0 ∨ n ≠ frameLength s.settings
  · rw [markUnlocked_begins hbegins]
    exact counted_portSound hl (by decide) h
  · obtain ⟨hcount, hn⟩ := not_or.1 hbegins
    have hmarks := ((portSound_iff s).1 h).1.marks
    obtain hfew | hthree : (s.lap.markCount = 1 ∨ s.lap.markCount = 2) ∨ s.lap.markCount = 3 := by omega
    · rw [markUnlocked_grows hfew (not_not.1 hn)]
      exact counted_portSound hl (by omega) h
    · rw [markUnlocked_locks hthree (not_not.1 hn)]
      exact lockPort_portSound (by simp [hl]) h

theorem markLocked_portSound (n : Nat) (h : PortSound s) : PortSound (markLocked n s) := by
  by_cases hn : n = frameLength s.settings
  · rwa [markLocked_keeps hn]
  · rw [markLocked_loses hn]
    exact loseLock_portSound (by decide) h

theorem exec_portSound {c : Instr} (he : exec c s = .next t) (h : PortSound s) : PortSound t := by
  have hf := exec_leavesAllBut c he
  cases c with
  | resetnLow => exact execResetnLow_cases he ▸ reset_portSound.of_eq rfl rfl
  | startUpReadComplete smi =>
    obtain rfl | ⟨-, ht⟩ := execStartUpReadComplete_cases he
    · exact h
    · have hstarted : t = started (smiImage smi) s := ht
      exact hstarted ▸ started_portSound (smiImage smi) s
  | blockEvent adi =>
    obtain ⟨-, rfl⟩ | ⟨⟨hl, -⟩, rfl⟩ := execBlockEvent_cases he
    · exact h
    · exact blockEvent_portSound adi hl h
  | portFrameEnd adi =>
    obtain rfl | ⟨hl, hc, rfl⟩ := execPortFrameEnd_cases he
    · exact h
    · obtain ⟨hlap, hengine⟩ := (portSound_iff s).1 h
      exact (portSound_iff _).2 ⟨hlap.captured hl hc _, hengine.congr rfl rfl⟩
  | computationComplete =>
    obtain ⟨-, rfl⟩ | ⟨hc, rfl⟩ := execComputationComplete_cases he
    · exact h
    · exact (completed_portSound hc h).of_eq (by simp) (by simp)
  | frameMark n =>
    obtain rfl | ⟨-, hl, rfl⟩ | ⟨-, -, rfl⟩ := execFrameMark_cases he
    · exact h
    · exact markUnlocked_portSound n hl h
    · exact markLocked_portSound n h
  | missedMark =>
    obtain rfl | ⟨-, hl, rfl⟩ | ⟨-, -, rfl⟩ := execMissedMark_cases he
    · exact h
    · exact counted_portSound hl (Nat.zero_le _) h
    · exact loseLock_portSound (Nat.zero_le _) h
  | startUp | receptionStart | blankedRxvFall | byteComplete | frameArrival | airTick | presenceCountExpiry
  | offerCountExpiry | listeningPeriodExpiry | clashWaitExpiry | listenOnlyRetry | windowClose | heardTimeout
  | stale | peerLost | cbsyRise | cbsyFall | gapExpiry | transmissionEnd | queueLapse | driftWindowClose
  | tagWriteStart | writeTransactionEnd | writeTimeEnd | writeCompletion =>
    exact h.of_eq (hf.lap (by simp [reaches])) (hf.engine (by simp [reaches]))

/-! ## The tag write (R175, R176) -/

theorem StoreSound.of_eq (h : StoreSound s) (hphase : t.phase = s.phase) (hstore : t.store = s.store) :
    StoreSound t := by
  rwa [StoreSound, hphase, hstore]

/-- A value queued for the store waits, and the write in progress goes on (R175). -/
theorem StoreSound.queued (h : StoreSound s) (hphase : t.phase = s.phase) {q : Option Tag}
    (hstore : t.store = { s.store with writeQueue := q }) : StoreSound t := by
  rwa [StoreSound, hphase, hstore]

theorem storeSound_of_powerOn (hstore : t.store = StoreUnit.powerOn) : StoreSound t := by
  rw [StoreSound, hstore]
  exact ⟨by decide, fun _ => rfl⟩

/-- The queued value starts its write, in IDLE alone (R175). -/
theorem storeTick_storeSound (h : StoreSound s) : StoreSound (storeTick s) := by
  by_cases hw : s.store.writeState = .idle
  · cases hq : s.store.writeQueue with
    | none => rwa [storeTick_waits (.inr hq)]
    | some v =>
      rw [StoreSound, storeTick_starts hw hq]
      exact ⟨by simp, fun _ => rfl⟩
  · rwa [storeTick_waits (.inl hw)]

theorem beforeWindow_phase (o : Bool) (s : State) : (beforeWindow o s).phase = s.phase := by
  cases o <;> simp [beforeWindow, beforeControl, scheduled]

theorem airTickInOrder_storeSound (o : Bool) (h : StoreSound s) : StoreSound (airTickInOrder o s) := by
  rw [airTickInOrder_eq]
  exact storeTick_storeSound (h.of_eq (by simpa using beforeWindow_phase o s) (by simp))

theorem openPairing_storeSound (h : StoreSound s) : StoreSound (openPairing s) := by
  rw [openPairing_eq]
  split
  · exact h.queued (by simp [windowOpened]) (joinGroup_store _ _)
  · exact h

theorem takeControl_storeSound (w : Option (BitVec 16)) (h : StoreSound s) : StoreSound (takeControl w s) :=
  takeControl_induction w h (fun u hu => hu.of_eq (by simp) (by simp))
    (fun u hu => hu.queued (by simp) (forget_store u)) (fun _ hu => openPairing_storeSound hu) fun _ _ hu => hu

/-- A frame judged can queue the tag it offers (R51). -/
theorem judgeFrame_storeSound (h : StoreSound s) : StoreSound (judgeFrame s) := by
  obtain e | ⟨f, e⟩ | ⟨f, -, -, ⟨-, -, e⟩ | ⟨-, -, -, e⟩ | ⟨-, -, -, e⟩⟩ := judgeFrame_cases s
  case inr.inr.inl =>
    rw [e, adoptOffer]
    split
    · exact h.queued (q := some f.tag) (by simp) (by simp)
    · exact h
  all_goals
    rw [e]
    exact h.of_eq (by simp) (by simp)

theorem exec_storeSound {c : Instr} (he : exec c s = .next t) (h : StoreSound s) : StoreSound t := by
  have hf := exec_leavesAllBut c he
  have hprogress := h.1
  cases c with
  | resetnLow => exact execResetnLow_cases he ▸ storeSound_of_powerOn rfl
  | startUpReadComplete smi =>
    obtain rfl | ⟨-, ht⟩ := execStartUpReadComplete_cases he
    · exact h
    · have hstarted : t = started (smiImage smi) s := ht
      obtain ⟨-, -, -, -, -, hstore⟩ := started_powerOn (smiImage smi) s
      exact hstarted ▸ storeSound_of_powerOn hstore
  | startUp =>
    obtain rfl | ⟨-, rfl⟩ := execStartUp_cases he
    · exact h
    · exact ⟨hprogress, fun hreading => absurd rfl hreading⟩
  | frameArrival =>
    obtain ⟨-, rfl⟩ | ⟨-, -, rfl⟩ | ⟨-, -, rfl⟩ := execFrameArrival_cases he
    · exact h
    · exact h.of_eq rfl rfl
    · exact judgeFrame_storeSound (h.of_eq rfl rfl)
  | airTick =>
    obtain ⟨-, rfl⟩ | ⟨-, rfl⟩ := execAirTick_cases he
    · exact h
    · exact airTickInOrder_storeSound _ (h.of_eq rfl rfl)
  | blockEvent adi =>
    obtain ⟨-, rfl⟩ | ⟨-, rfl⟩ := execBlockEvent_cases he
    · exact h
    · have htaken := takeControl_storeSound (controlWord s.settings adi) h
      exact htaken.of_eq (by simp) (by simp [blockEvent])
  | tagWriteStart =>
    obtain rfl | ⟨-, rfl⟩ := execTagWriteStart_cases he
    · exact h
    · exact storeTick_storeSound h
  | writeTransactionEnd =>
    obtain rfl | ⟨hw, rfl⟩ := execWriteTransactionEnd_cases he
    · exact h
    · exact ⟨by simpa [hw] using hprogress, fun _ => rfl⟩
  | writeTimeEnd =>
    obtain rfl | ⟨hw, rfl⟩ := execWriteTimeEnd_cases he
    · exact h
    · exact ⟨by simpa [hw] using hprogress, fun _ => rfl⟩
  | writeCompletion first second =>
    obtain rfl | ⟨-, rfl⟩ := execWriteCompletion_cases he
    · exact h
    · rw [StoreSound]
      simp
  | receptionStart | blankedRxvFall | byteComplete | presenceCountExpiry | offerCountExpiry
  | listeningPeriodExpiry | clashWaitExpiry | listenOnlyRetry | windowClose | heardTimeout | stale | peerLost
  | cbsyRise | cbsyFall | gapExpiry | transmissionEnd | queueLapse | driftWindowClose | computationComplete
  | frameMark | missedMark | portFrameEnd =>
    exact h.of_eq (hf.phase (by simp [reaches])) (hf.store (by simp [reaches]))

/-! ## The scan index (R163) -/

theorem nextScanIndex_le (limit index : Nat) : nextScanIndex limit index ≤ limit + 3 := by
  unfold nextScanIndex
  split <;> omega

/-- An image gives a scan limit of 1, 3 or 7 (R174). -/
theorem settingsOf_scanLimit (image : Image) : (settingsOf image).scanLimit ∈ [1, 3, 7] := by
  unfold settingsOf
  split
  · simp only [decodeImage, decodeScanLimit]
    split
    · decide
    · split <;> decide
  · decide

theorem ScanSound.of_eq (h : ScanSound s) (hset : t.settings = s.settings) (hindex : t.scanIndex = s.scanIndex) :
    ScanSound t := by
  rwa [ScanSound, hset, hindex]

theorem started_scanSound (image : Image) (s : State) : ScanSound (started image s) := by
  obtain ⟨-, -, -, -, hscan, -⟩ := started_powerOn image s
  rw [ScanSound, hscan, started_settings]
  exact ⟨settingsOf_scanLimit image, Nat.zero_le _⟩

/-- A block event reports one word and moves to the next (R163). -/
theorem blockEvent_scanIndex (adi : List Bool) (s : State) :
    (blockEvent adi s).scanIndex = nextScanIndex s.settings.scanLimit s.scanIndex := by
  simp [blockEvent, mixAndReport_scanIndex]

theorem blockEvent_scanSound (adi : List Bool) (h : ScanSound s) : ScanSound (blockEvent adi s) := by
  obtain ⟨hlimit, -⟩ := h
  have hset : (blockEvent adi s).settings = s.settings := by simp
  rw [ScanSound, hset, blockEvent_scanIndex]
  exact ⟨hlimit, nextScanIndex_le _ _⟩

theorem scanIndex_mem_reaches_iff (c : Instr) :
    .scanIndex ∈ reaches c ↔ PowersOn c ∨ ∃ adi : List Bool, c = .blockEvent adi := by
  cases c <;> simp [reaches, PowersOn]

theorem exec_scanSound {c : Instr} (he : exec c s = .next t) (h : ScanSound s) : ScanSound t := by
  by_cases hr : .scanIndex ∈ reaches c
  · obtain (rfl | ⟨smi, rfl⟩) | ⟨adi, rfl⟩ := (scanIndex_mem_reaches_iff c).1 hr
    · exact execResetnLow_cases he ▸ reset_storeSound.2.of_eq rfl rfl
    · obtain rfl | ⟨-, ht⟩ := execStartUpReadComplete_cases he
      · exact h
      · have hstarted : t = started (smiImage smi) s := ht
        exact hstarted ▸ started_scanSound (smiImage smi) s
    · obtain ⟨-, rfl⟩ | ⟨-, rfl⟩ := execBlockEvent_cases he
      · exact h
      · exact blockEvent_scanSound adi h
  · have hset : .settings ∉ reaches c := fun hs =>
      hr ((scanIndex_mem_reaches_iff c).2 (.inl ((settings_mem_reaches_iff c).1 hs)))
    have hf := exec_leavesAllBut c he
    exact h.of_eq (hf.settings hset) (hf.scanIndex hr)

end Events

/-- Settles O60: each part on its own, by the events that reach it. -/
theorem stepKeepsPortStoreAndScanSound : Obligations.StepKeepsPortStoreAndScanSound := by
  intro s t he
  unfold step at he
  split at he
  · cases he
    exact ⟨id, id, id⟩
  · exact ⟨fun h => exec_portSound he h, fun h => exec_storeSound he h, fun h => exec_scanSound he h⟩

end Sys2Proof.Machine

/-! # The Mix Engine -/

namespace Sys2Proof.Machine

/-! ## The order of addition (R134) -/

/-- A source is added before another, or is the same: SIDETONE, then FAR, then NEAR, each by ascending number (R134). -/
def addedBefore (x y : InputSource) : Prop :=
  match x, y with
  | .sidetone, _ => True
  | .peer _ _, .sidetone => False
  | .peer .far _, .peer .near _ => True
  | .peer .near _, .peer .far _ => False
  | .peer .far j, .peer .far k => j ≤ k
  | .peer .near j, .peer .near k => j ≤ k

theorem addedBefore_refl (x : InputSource) : addedBefore x x := by
  obtain _ | ⟨_ | _, k⟩ := x
  · trivial
  · exact le_refl k
  · exact le_refl k

theorem addedBefore_antisymm {x y : InputSource} (h : addedBefore x y) (g : addedBefore y x) : x = y := by
  obtain _ | ⟨_ | _, j⟩ := x <;> obtain _ | ⟨_ | _, k⟩ := y
  case sidetone.sidetone => rfl
  case peer.near.peer.near | peer.far.peer.far => rw [le_antisymm h g]
  case sidetone.peer.near | sidetone.peer.far | peer.far.peer.near => exact g.elim
  case peer.near.sidetone | peer.far.sidetone | peer.near.peer.far => exact h.elim

/-- Every source there is, in the order of addition (R134). -/
def sourcesInOrder : List InputSource :=
  .sidetone :: ((List.finRange 8).map (.peer .far) ++ (List.finRange 8).map (.peer .near))

theorem mem_sourcesInOrder (x : InputSource) : x ∈ sourcesInOrder := by
  obtain _ | ⟨_ | _, k⟩ := x <;> simp [sourcesInOrder]

theorem sourcesInOrder_nodup : sourcesInOrder.Nodup := by decide

theorem sourcesInOrder_pairwise : sourcesInOrder.Pairwise addedBefore := by
  have hascending : (List.finRange 8).Pairwise (· ≤ ·) := List.pairwise_le_finRange 8
  refine List.pairwise_cons.2 ⟨fun _ _ => trivial, List.pairwise_append.2 ⟨?_, ?_, ?_⟩⟩
  · exact List.pairwise_map.2 hascending
  · exact List.pairwise_map.2 hascending
  · simp [addedBefore]

/-- The inputs of one source. -/
def inputsFrom (l : List MixInput) (x : InputSource) : List MixInput := l.filter fun i => i.source == x

theorem mem_inputsFrom {l : List MixInput} {x : InputSource} {i : MixInput} :
    i ∈ inputsFrom l x ↔ i ∈ l ∧ i.source = x := by
  simp [inputsFrom]

/-- The inputs are added source by source (R134). -/
theorem additionOrder_eq (l : List MixInput) : additionOrder l = sourcesInOrder.flatMap (inputsFrom l) := by
  simp [additionOrder, sourcesInOrder, List.flatMap_map, inputsOf, inputsFrom]

theorem mem_additionOrder {l : List MixInput} {i : MixInput} : i ∈ additionOrder l ↔ i ∈ l := by
  simp [additionOrder_eq, mem_inputsFrom, mem_sourcesInOrder]

/-- Inputs of one source stand together, and those of two sources in the order of their sources (R134). -/
theorem additionOrder_pairwise (l : List MixInput) :
    (additionOrder l).Pairwise fun a b => addedBefore a.source b.source := by
  rw [additionOrder_eq, List.pairwise_flatMap]
  refine ⟨fun x _ => ?_, sourcesInOrder_pairwise.imp fun {x y} hxy a ha b hb => ?_⟩
  · refine List.pairwise_of_forall_mem_list fun a ha b hb => ?_
    rw [(mem_inputsFrom.1 ha).2, (mem_inputsFrom.1 hb).2]
    exact addedBefore_refl x
  · rwa [(mem_inputsFrom.1 ha).2, (mem_inputsFrom.1 hb).2]

theorem additionOrder_nodup {l : List MixInput} (h : l.Nodup) : (additionOrder l).Nodup := by
  rw [additionOrder_eq, List.nodup_flatMap]
  refine ⟨fun x _ => h.filter _, sourcesInOrder_nodup.imp fun {x y} hxy i hx hy => ?_⟩
  exact hxy ((mem_inputsFrom.1 hx).2.symm.trans (mem_inputsFrom.1 hy).2)

theorem additionOrder_perm {l : List MixInput} (h : l.Nodup) : (additionOrder l).Perm l :=
  (List.perm_ext_iff_of_nodup (additionOrder_nodup h) h).2 fun _ => mem_additionOrder

/-- Settles O49: inputs of distinct sources have one order alone in which each is added before the next. -/
theorem orderOfAdditionIsFixed : Obligations.OrderOfAdditionIsFixed := by
  intro l hsources
  have hl : l.Nodup := .of_map _ hsources
  refine ⟨additionOrder_perm hl, additionOrder_pairwise l, fun l' hperm => ?_⟩
  have hl' : l'.Nodup := hperm.nodup_iff.2 hl
  have hsame : (additionOrder l').Perm (additionOrder l) :=
    ((additionOrder_perm hl').trans hperm).trans (additionOrder_perm hl).symm
  refine hsame.eq_of_pairwise (fun a b ha hb hab hba => ?_) (additionOrder_pairwise l') (additionOrder_pairwise l)
  have hmem : a ∈ l := hperm.subset (mem_additionOrder.1 ha)
  exact List.inj_on_of_nodup_map hsources hmem (mem_additionOrder.1 hb) (addedBefore_antisymm hab hba)

/-! ## The accumulator (R135) -/

theorem saturate32_eq (v : Int) :
    saturate32 v = if v < -2147483648 then -2147483648 else if 2147483647 < v then 2147483647 else v := by
  unfold saturate32
  omega

/-- An addition holds its exact sum, saturated (R135). -/
theorem addInput_acc (n : Fin 64) (a : Sum) (i : MixInput) :
    (addInput n a i).acc.toInt = saturate32 (a.acc.toInt + i.block[n].toInt * i.gain) := by
  refine BitVec.toInt_ofInt_eq_self (by decide) ?_ ?_ <;>
  · unfold saturate32
    omega

theorem addInput_saturated (n : Fin 64) (a : Sum) (i : MixInput) :
    (addInput n a i).saturated = (a.saturated || outside32 (a.acc.toInt + i.block[n].toInt * i.gain)) := rfl

/-- A sample is a 16-bit two's-complement integer. -/
theorem sample_bounds (x : Sample) : -32768 ≤ x.toInt ∧ x.toInt ≤ 32767 :=
  ⟨x.le_toInt, Int.le_of_lt_add_one x.toInt_lt⟩

/-- A sample scaled by unity at most is at most 2^30 in magnitude (R135). -/
theorem product_bounds (x : Sample) {g : Nat} (hg : g ≤ 32768) :
    -1073741824 ≤ x.toInt * g ∧ x.toInt * g ≤ 1073709056 := by
  obtain ⟨hlow, hhigh⟩ := sample_bounds x
  constructor <;> nlinarith

/-- A sum inside the range is held as it is, and the addition is not marked (R135). -/
theorem addInput_of_inside {n : Fin 64} {a : Sum} {i : MixInput} {v : Int}
    (hv : a.acc.toInt + i.block[n].toInt * i.gain = v) (hlow : -2147483648 ≤ v) (hhigh : v ≤ 2147483647) :
    (addInput n a i).acc.toInt = v ∧ (addInput n a i).saturated = a.saturated := by
  rw [addInput_acc, addInput_saturated, hv, saturate32_eq, outside32, if_neg (by omega), if_neg (by omega),
    decide_eq_false (by omega), Bool.or_false]
  exact ⟨rfl, rfl⟩

/-- The first product is summed exactly (R135). -/
theorem addInput_first (n : Fin 64) {a : MixInput} (ha : a.gain ≤ 32768) :
    (addInput n { acc := 0, saturated := false } a).acc.toInt = a.block[n].toInt * a.gain ∧
    (addInput n { acc := 0, saturated := false } a).saturated = false := by
  obtain ⟨hlow, hhigh⟩ := product_bounds a.block[n] ha
  exact addInput_of_inside (Int.zero_add _) (by omega) (by omega)

/-! ## The output stage (R136 to R138) -/

theorem clampSample_eq (y : Int) :
    clampSample y = if y < -32768 then -32768 else if 32767 < y then 32767 else y := by
  unfold clampSample
  omega

theorem clampSample_bounds (y : Int) : -32768 ≤ clampSample y ∧ clampSample y ≤ 32767 := by
  unfold clampSample
  omega

theorem trimGainOf_le (step : Fin 16) : trimGainOf step ≤ 32768 := by
  revert step
  decide

/-- A gain of unity at most leaves a value between itself and 0 (R138). -/
theorem trimSample_between (y : Int) {g : Nat} (hg : g ≤ 32768) :
    min y 0 ≤ trimSample y g ∧ trimSample y g ≤ max y 0 := by
  have hgain : (g : Int) ≤ 32768 := Int.ofNat_le.2 hg
  unfold trimSample
  obtain hy | hy := le_total 0 y
  · have hlow : 0 ≤ y * g := mul_nonneg hy (Int.natCast_nonneg g)
    have hhigh : y * g ≤ y * 32768 := mul_le_mul_of_nonneg_left hgain hy
    omega
  · have hlow : y * 32768 ≤ y * g := mul_le_mul_of_nonpos_left hgain hy
    have hhigh : y * g ≤ 0 := mul_nonpos_of_nonpos_of_nonneg hy (Int.natCast_nonneg g)
    omega

theorem trimSample_unity (y : Int) : trimSample y 32768 = y := by
  unfold trimSample
  omega

/-- A trimmed value is a sample (R138). -/
theorem outputSample_toInt (acc : BitVec 32) {g : Nat} (hg : g ≤ 32768) :
    (outputSample acc g).toInt = trimSample (clampSample (roundSum acc)) g := by
  have hclamp := clampSample_bounds (roundSum acc)
  have htrim := trimSample_between (clampSample (roundSum acc)) hg
  exact BitVec.toInt_ofInt_eq_self (by decide) (by omega) (by omega)

/-- A lone input at unity is rounded to its own sample (R136). -/
theorem roundSum_lone {n : Fin 64} {a : MixInput} (ha : a.gain = 32768) :
    roundSum (addInput n { acc := 0, saturated := false } a).acc = a.block[n].toInt := by
  rw [roundSum, (addInput_first n ha.le).1, ha]
  omega

/-- Settles O48: each sum and each trimmed value lies in a range that its register holds. -/
theorem twoProductsAreExactAndTrimNeverRaises : Obligations.TwoProductsAreExactAndTrimNeverRaises := by
  refine ⟨fun n a i => ?_, fun acc step => ?_, by decide, fun n a b ha hb => ?_, fun n a ha => ?_,
    fun step y hlow hhigh => ?_⟩
  · intro v
    refine ⟨(addInput_acc n a i).trans (saturate32_eq v), ?_⟩
    rw [addInput_saturated, Bool.or_eq_true, outside32, decide_eq_true_iff]
  · intro rounded y
    rw [outputSample_toInt acc (trimGainOf_le step), clampSample_eq]
    rfl
  · intro one two
    obtain ⟨hone, honemark⟩ := addInput_first n ha
    have hfirst := product_bounds a.block[n] ha
    have hsecond := product_bounds b.block[n] hb
    obtain ⟨htwo, htwomark⟩ :=
      addInput_of_inside (congrArg (· + b.block[n].toInt * b.gain) hone) (by omega) (by omega)
    exact ⟨honemark, hone, htwomark.trans honemark, htwo⟩
  · have hlone := roundSum_lone (n := n) ha
    obtain ⟨hlow, hhigh⟩ := sample_bounds a.block[n]
    refine ⟨?_, BitVec.eq_of_toInt_eq ?_⟩
    · rw [hlone, clips]
      exact decide_eq_false (by omega)
    · rw [outputSample_toInt _ le_rfl, hlone, trimSample_unity, clampSample_eq, if_neg (by omega), if_neg (by omega)]
  · have htrim := trimSample_between y (trimGainOf_le step)
    exact ⟨by omega, by omega, by omega, trimSample_unity y⟩

/-! ## Completion (R139) -/

/-- The sums of a computation meet a test where that of some index does. -/
theorem any_computeSums_iff (e : MixEngine) (p : Sum → Bool) :
    (computeSums e).toList.any p = true ↔ ∃ n : Fin 64, p (sumAt e.inputs e.accumulators[n] n) = true := by
  rw [List.any_eq_true]
  simp [computeSums]

theorem computeAccSat_iff (e : MixEngine) :
    computeAccSat e = true ↔
      e.accSatCause = true ∨ ∃ n : Fin 64, (sumAt e.inputs e.accumulators[n] n).saturated = true := by
  rw [computeAccSat, Bool.or_eq_true, any_computeSums_iff]

theorem computeOutClip_iff (e : MixEngine) :
    computeOutClip e = true ↔
      e.outClipCause = true ∨
        ∃ n : Fin 64, roundSum (sumAt e.inputs e.accumulators[n] n).acc < -32768 ∨
          32767 < roundSum (sumAt e.inputs e.accumulators[n] n).acc := by
  simp only [computeOutClip, Bool.or_eq_true, any_computeSums_iff, clips, decide_eq_true_iff]

theorem exec_computationComplete {s : State} (h : s.engine.state = .computing) :
    exec .computationComplete s = .next
      (setFlagIf (computeAccSat s.engine) .accSat (setFlagIf (computeOutClip s.engine) .outClip
        { s with engine := completeEngine s.engine })) := by
  rw [exec, execComputationComplete, h]

/-- Settles O50: the causes are those of some index. -/
theorem completionReadiesTheBlockAndSetsItsFlags : Obligations.CompletionReadiesTheBlockAndSetsItsFlags := by
  intro s h sum
  refine ⟨_, computeAccSat s.engine, computeOutClip s.engine, computeBlock s.engine, exec_computationComplete h,
    computeAccSat_iff s.engine, computeOutClip_iff s.engine, fun n => ?_, ?_, ?_⟩
  · exact Vector.getElem_ofFn n.isLt
  · simp only [setFlagIf_flags]
    cases computeAccSat s.engine <;> cases computeOutClip s.engine <;> simp [withFlag]
  · simp [completeEngine]

end Sys2Proof.Machine

/-! # The port frame -/

namespace Sys2Proof.Machine

/-! ## A bit clock of a slot (R147) -/

section Slot

variable {g : Settings} {slot bit : Nat}

theorem slotOf_bit (h : bit < g.slotWidth) : slotOf g (slot * g.slotWidth + bit) = slot := by
  rw [slotOf, Nat.mul_comm, Nat.mul_add_div (by omega), Nat.div_eq_of_lt h, Nat.add_zero]

theorem slotBit_bit (h : bit < g.slotWidth) (x : Sample) :
    slotBit g x (slot * g.slotWidth + bit) = decide (bit < 16 ∧ x.getLsbD (15 - bit) = true) := by
  have hmod : (slot * g.slotWidth + bit) % g.slotWidth = bit := by
    rw [Nat.mul_add_mod_self_right, Nat.mod_eq_of_lt h]
  by_cases hbit : bit < 16 <;> simp [slotBit, hmod, hbit]

/-- The bit clocks of the slots of a frame lie in the frame. -/
theorem bit_lt_frameLength (hslot : slot < g.slotCount) (h : bit < g.slotWidth) :
    slot * g.slotWidth + bit < frameLength g := by
  calc slot * g.slotWidth + bit < (slot + 1) * g.slotWidth := by rw [Nat.succ_mul]; omega
    _ ≤ g.slotCount * g.slotWidth := Nat.mul_le_mul_right _ hslot

end Slot

/-! ## ADO (R148, R150) -/

/-- The playback lanes give sample `i` in port frame `i`; lane 0 comes first where the slots coincide (R150). -/
theorem slotSampleOut_eq (g : Settings) (b : Playback) (i : Fin 64) (slot : Nat) :
    slotSampleOut g b i.val slot =
      if g.lane0Slot.val = slot then b.lane0[i] else if g.lane1Slot.val = slot then b.lane1[i] else 0 := by
  simp [slotSampleOut]

/-- A playing port drives the slots of the transmit-select mask (R148, R150). -/
theorem adoPin_of_playback {s : State} {b : Playback} (hlock : s.lap.lock = .locked) (hlead : s.lap.leadIn = false)
    (hb : s.lap.playback = some b) {j : Nat} (hj : j < frameLength s.settings) :
    adoPin s (.ofFrame j) =
      if s.settings.transmitMask.getLsbD (slotOf s.settings j) then
        driven (slotBit s.settings (slotSampleOut s.settings b s.lap.frameCounter (slotOf s.settings j)) j)
      else .highZ := by
  simp [adoPin, hlock, hlead, hb, hj]

/-- ADO is high impedance in the lead-in and while the port is not LOCKED (R150). -/
theorem adoPin_of_silent {s : State} (h : s.lap.lock ≠ .locked ∨ s.lap.leadIn = true) (c : BitClock) :
    adoPin s c = .highZ := by
  unfold adoPin
  split
  next hlock hlead _ => exact h.elim (absurd hlock) fun hl => by simp [hlead] at hl
  next => rfl

/-! ## The end of a port frame (R151, R158) -/

theorem exec_portFrameEnd {s : State} (hlock : s.lap.lock = .locked) (hframe : s.lap.frameCounter < 63)
    (adi : List Bool) :
    exec (.portFrameEnd adi) s = .next { s with lap := { s.lap with
      frameCounter := s.lap.frameCounter + 1
      assembly := s.lap.assembly ++ [captureSample s.settings adi] } } :=
  if_pos ⟨hlock, hframe⟩

/-- Settles O43: the bit clock's slot and bit on ADO; the capture sample is the one appended. -/
theorem portFrameCarriesItsSamples : Obligations.PortFrameCarriesItsSamples := by
  refine ⟨?ado, fun c s h => adoPin_of_silent h c, ?frameEnd⟩
  case ado =>
    intro b i slot bit s hlock hlead hb hframe hslot hbit x
    rw [adoPin_of_playback hlock hlead hb (bit_lt_frameLength hslot hbit), slotOf_bit hbit, slotBit_bit hbit, hframe,
      slotSampleOut_eq, driven_decide]
  case frameEnd =>
    intro adi s hlock hframe
    exact ⟨captureSample s.settings adi, exec_portFrameEnd hlock hframe adi,
      fun hslot _ hi => captureSample_getLsbD hslot adi hi, fun hslot => captureSample_of_no_slot hslot adi⟩

end Sys2Proof.Machine

/-! # The settings image -/

namespace Sys2Proof.Machine

/-! ## Fields of a byte, as numbers (R174) -/

section Fields

variable (b : Byte)

theorem lowThree_val : ((b.extractLsb' 0 3).toFin : Fin 8).val = b.toNat % 8 := by
  simp

theorem getLsbD_iff_toNat (i : Nat) : b.getLsbD i = true ↔ b.toNat / 2 ^ i % 2 = 1 := by
  rw [BitVec.getLsbD, Nat.testBit_eq_decide_div_mod_eq, decide_eq_true_iff]

theorem topBit_iff : b.getLsbD 7 = true ↔ b.toNat / 128 = 1 := by
  have hlt : b.toNat / 128 < 2 := by omega
  rw [getLsbD_iff_toNat, show 2 ^ 7 = 128 from rfl, Nat.mod_eq_of_lt hlt]

theorem lowBit_iff : b.getLsbD 0 = true ↔ b.toNat % 2 = 1 := by
  rw [getLsbD_iff_toNat, pow_zero, Nat.div_one]

theorem twoBits_eq_iff (start : Nat) (code : BitVec 2) :
    b.extractLsb' start 2 = code ↔ b.toNat / 2 ^ start % 4 = code.toNat := by
  rw [BitVec.toNat_eq, BitVec.extractLsb'_toNat, Nat.shiftRight_eq_div_pow]

theorem decodeSlotCount_field :
    decodeSlotCount (b.extractLsb' 5 2) =
      if b.toNat / 32 % 4 = 0 then 2 else if b.toNat / 32 % 4 = 2 then 8 else 4 := by
  simp [decodeSlotCount, twoBits_eq_iff]

theorem decodeSlotWidth_field :
    decodeSlotWidth (b.extractLsb' 3 2) =
      if b.toNat / 8 % 4 = 1 then 24 else if b.toNat / 8 % 4 = 2 then 32 else 16 := by
  simp [decodeSlotWidth, twoBits_eq_iff]

theorem decodeContent_field :
    decodeContent (b.extractLsb' 4 2) =
      if b.toNat / 16 % 4 = 0 then .mix else if b.toNat / 16 % 4 = 1 then .capture
      else if b.toNat / 16 % 4 = 2 then .status else .zero := by
  simp [decodeContent, twoBits_eq_iff]

/-- A field of two bytes, high byte first (R174). -/
theorem twoBytes_toNat (high low : Byte) : (high ++ low).toNat = high.toNat * 256 + low.toNat :=
  toNat_append_fields high low

end Fields

/-- A value held to an upper limit (R174). -/
theorem min_eq_ite (limit v : Nat) : min limit v = if limit < v then limit else v := by
  split <;> omega

/-- A value held between two limits (R174). -/
theorem max_min_eq_ite {low high : Nat} (h : low ≤ high) (v : Nat) :
    max low (min high v) = if v < low then low else if high < v then high else v := by
  split
  · omega
  · split <;> omega

/-! ## The bytes of an image -/

section Bytes

variable (image : Image) {i : Nat}

theorem imageByte_eq (h : i < 32) : imageByte image i = image[i] := by
  simp [imageByte, h]

theorem imageWord_eq (h : i + 1 < 32) : imageWord image i = image[i] ++ image[i + 1] := by
  rw [imageWord, imageByte_eq, imageByte_eq]

theorem imageValid_iff : imageValid image = true ↔ image[0] = 0x6D#8 := by
  rw [imageValid, imageByte_eq, beq_iff_eq]

end Bytes

/-- Bytes 22 and 23 hold the enables in the places of R168's enable bits. -/
theorem flagsOfBits_append (high low : Byte) :
    flagsOfBits (high ++ low) =
      { accSat := high.getLsbD 5, outClip := high.getLsbD 4, checkFail := high.getLsbD 3
        malformed := high.getLsbD 2, foreign := high.getLsbD 1, superseded := high.getLsbD 0
        underrun := low.getLsbD 7, clash := low.getLsbD 6, full := low.getLsbD 5
        paired := low.getLsbD 4, storeFail := low.getLsbD 3, lapLost := low.getLsbD 2
        peerLapse := low.getLsbD 1, peerLost := low.getLsbD 0 } := by
  simp only [flagsOfBits, BitVec.getLsbD_append, Nat.reduceLT, Nat.reduceSub, if_true, if_false]

/-! ## Valid or not (R173) -/

section Marker

variable {image : Image}

theorem settingsOf_of_valid (h : image[0] = 0x6D#8) : settingsOf image = decodeImage image :=
  if_pos ((imageValid_iff image).2 h)

theorem tagOf_of_valid (h : image[0] = 0x6D#8) : tagOf image = imageWord image 24 :=
  if_pos ((imageValid_iff image).2 h)

theorem settingsOf_of_invalid (h : image[0] ≠ 0x6D#8) : settingsOf image = Settings.default :=
  if_neg fun hv => h ((imageValid_iff image).1 hv)

theorem tagOf_of_invalid (h : image[0] ≠ 0x6D#8) : tagOf image = 0 :=
  if_neg fun hv => h ((imageValid_iff image).1 hv)

end Marker

/-- A station that starts with no tag is UNPAIRED (R39). -/
theorem started_control_of_no_tag {image : Image} (h : tagOf image = 0) (s : State) :
    (started image s).control.tag = 0 ∧ (started image s).control.selfState = .unpaired := by
  have hcontrol : (started image s).control = _ := loadTag_control (tagOf image) _ rfl
  rw [hcontrol, h]
  exact ⟨rfl, rfl⟩

/-- Settles O11: the fields of a valid image one by one, in the order of R174. -/
theorem imageIsDecodedByItsTableOrDefaulted : Obligations.ImageIsDecodedByItsTableOrDefaulted := by
  refine ⟨fun image smi s hp hi hm => ?invalid, fun image hm => ?valid⟩
  case invalid =>
    obtain ⟨htag, hself⟩ := started_control_of_no_tag (tagOf_of_invalid hm) s
    obtain ⟨-, -, -, hflags, -, -⟩ := started_powerOn image s
    exact ⟨_, exec_startUpReadComplete hp hi, (started_settings image s).trans (settingsOf_of_invalid hm), htag,
      hself, hflags⟩
  case valid =>
    rw [settingsOf_of_valid hm, tagOf_of_valid hm]
    simp (disch := omega) only [decodeImage, imageByte_eq, imageWord_eq, twoBytes_toNat]
    exact ⟨rfl, lowThree_val _, if_congr (topBit_iff _) rfl rfl, decodeSlotCount_field _, decodeSlotWidth_field _,
      if_congr (getLsbD_iff_toNat _ 2) rfl rfl, lowThree_val _, lowThree_val _, decodeContent_field _,
      lowThree_val _, decodeContent_field _, lowThree_val _, trivial, if_congr (lowBit_iff _) rfl rfl,
      max_min_eq_ite (by omega) _, rfl, min_eq_ite _ _, min_eq_ite _ _, min_eq_ite _ _, min_eq_ite _ _, rfl,
      if_congr (lowBit_iff _) rfl rfl, flagsOfBits_append _ _, trivial⟩

end Sys2Proof.Machine

/-! # The attention output -/

namespace Sys2Proof.Machine

theorem mem_allFlags (f : Flag) : f ∈ allFlags := by cases f <;> decide

theorem attnAsserted_iff (s : State) :
    attnAsserted s = true ↔ ∃ f : Flag, hasFlag s.flags f = true ∧ hasFlag s.settings.enables f = true := by
  simp [attnAsserted, mem_allFlags]

@[simp] theorem hasFlag_clear (f : Flag) : hasFlag Flags.clear f = false := by cases f <;> rfl

theorem attnAsserted_of_clear {s : State} (h : s.flags = Flags.clear) : attnAsserted s = false := by
  rw [Bool.eq_false_iff, Ne, attnAsserted_iff, h]
  simp

section Pin

variable {s : State}

theorem attnPin_before_running (h : s.phase ≠ .running) : attnPin s = .highZ := by
  unfold attnPin
  cases hp : s.phase with
  | held | reading => rfl
  | running => exact absurd hp h

theorem attnPin_of_pushPull (hp : s.phase = .running) (hd : s.settings.attnDrive = .pushPull) :
    attnPin s = if attnAsserted s then .high else .low := by
  rw [attnPin, hp, hd]
  rfl

theorem attnPin_of_openDrain (hp : s.phase = .running) (hd : s.settings.attnDrive = .openDrain) :
    attnPin s = if attnAsserted s then .low else .highZ := by
  rw [attnPin, hp, hd]
  cases attnAsserted s <;> rfl

/-- A pin that is not asserted is low in push-pull and high impedance in open-drain (R170). -/
theorem attnPin_of_deasserted (hp : s.phase = .running) (ha : attnAsserted s = false) :
    attnPin s = if s.settings.attnDrive = .pushPull then .low else .highZ := by
  cases hd : s.settings.attnDrive with
  | pushPull => simp [attnPin_of_pushPull hp hd, ha]
  | openDrain => simp [attnPin_of_openDrain hp hd, ha]

end Pin

theorem started_phase (image : Image) (s : State) : (started image s).phase = .running := by
  simp [started, leavePowerOn]

/-- Any bits sampled on SMI carry the image clocked in from them (R171). -/
theorem carries_smiImage (smi : Vector Bool 256) : Carries (smiImage smi) smi := fun i j => by
  rw [smiImage, Fin.getElem_fin, Vector.getElem_ofFn, sampledByte_getLsbD _ _ j.isLt]

/-- Settles O53: start-up begins with no flag set, and the settings last by O4. -/
theorem attnFollowsTheEnabledFlags : Obligations.AttnFollowsTheEnabledFlags := by
  intro s
  refine ⟨attnAsserted_iff s, attnPin_before_running, attnPin_of_pushPull, attnPin_of_openDrain, ?atStart, ?lasting⟩
  case atStart =>
    intro smi hreading
    obtain ⟨-, -, -, hflags, -, -⟩ := started_powerOn (smiImage smi) s
    have hdeasserted := attnAsserted_of_clear hflags
    exact ⟨_, exec_startUpReadComplete hreading (carries_smiImage smi), hdeasserted,
      attnPin_of_deasserted (started_phase _ s) hdeasserted⟩
  case lasting =>
    intro c t he hp
    obtain ⟨-, hlast⟩ := identifierAndSettingsLast c s t he
    rw [hlast hp]
    exact ⟨rfl, rfl⟩

end Sys2Proof.Machine

/-! # The phases of a tag write -/

namespace Sys2Proof.Machine

section Phases

variable {s : State}

theorem storeTick_eq {v : Tag} (hw : s.store.writeState = .idle) (hq : s.store.writeQueue = some v) :
    storeTick s =
      { s with
        store :=
          { transaction := some (tagWriteTransaction v), writeQueue := none, inProgress := some v
            writeState := .writing } } := by
  rw [storeTick, if_pos ((tagWriteDue_iff s).2 ⟨hw, by simp [hq]⟩), startTagWrite, hq]

theorem exec_tagWriteStart (h : s.phase = .running) : exec .tagWriteStart s = .next (storeTick s) :=
  congrArg _ (if_pos h)

theorem exec_writeTransactionEnd (h : s.store.writeState = .writing) :
    exec .writeTransactionEnd s = .next
      { s with store := { s.store with transaction := none, writeState := .waiting } } := by
  rw [exec, execWriteTransactionEnd, h]

theorem exec_writeTimeEnd (h : s.store.writeState = .waiting) :
    exec .writeTimeEnd s = .next
      { s with store := { s.store with transaction := some readBackTransaction, writeState := .checking } } := by
  rw [exec, execWriteTimeEnd, h]

theorem exec_writeCompletion (h : s.store.writeState = .checking) (first second : Vector Bool 8) :
    exec (.writeCompletion first second) s = .next
      (setFlagIf (s.store.inProgress != some (smiTag first second)) .storeFail
        { s with store := { s.store with transaction := none, inProgress := none, writeState := .idle } }) := by
  rw [exec, execWriteCompletion, h]

end Phases

/-- The value read back differs where some bit sampled does (R171, R176). -/
theorem readBack_differs_iff (v : Tag) (first second : Vector Bool 8) :
    (some v != some (smiTag first second)) = decide
      (∃ j : Fin 8, first[j] ≠ v.getLsbD (15 - j.val) ∨ second[j] ≠ v.getLsbD (7 - j.val)) := by
  rw [Bool.eq_iff_iff, bne_iff_ne, decide_eq_true_iff, Ne, Option.some_inj, eq_comm, smiTag_eq_iff, not_forall]
  simp only [not_and_or, ne_eq]

theorem setFlagIf_storeFail (c : Bool) (s : State) :
    setFlagIf c .storeFail s = { s with flags := { s.flags with storeFail := s.flags.storeFail || c } } := by
  cases c with
  | false => simp [setFlagIf]
  | true => simp [setFlagIf, setFlag, withFlag]

/-- Settles O54: one phase each. -/
theorem tagWriteGoesThroughItsPhases : Obligations.TagWriteGoesThroughItsPhases := by
  refine ⟨fun v s hp hw hq => ?start, fun s hw => exec_writeTransactionEnd hw, fun s hw => exec_writeTimeEnd hw,
    fun v first second s hw hv => ?compare⟩
  case start => rw [exec_tagWriteStart hp, storeTick_eq hw hq, tagWriteTransaction_eq]
  case compare => rw [exec_writeCompletion hw, hv, readBack_differs_iff, setFlagIf_storeFail]

end Sys2Proof.Machine

/-! # The sticky flags last -/

namespace Sys2Proof.Machine

/-! ## What sets a flag clears none (R168) -/

/-- Every flag set in `s` is set in `t`. -/
def FlagsKept (s t : State) : Prop := ∀ f : Flag, hasFlag s.flags f = true → hasFlag t.flags f = true

section Kept

variable {s t u : State}

theorem FlagsKept.of_eq (h : t.flags = s.flags) : FlagsKept s t := fun _ hf => h ▸ hf

theorem FlagsKept.trans (h : FlagsKept s t) (h' : FlagsKept t u) : FlagsKept s u := fun f hf => h' f (h f hf)

theorem FlagsKept.of_withFlag {f : Flag} (h : t.flags = withFlag s.flags f) : FlagsKept s t := fun g hg => by
  rw [h, hasFlag_withFlag, hg, Bool.true_or]

theorem FlagsKept.setFlag {f : Flag} (h : FlagsKept s t) : FlagsKept s (setFlag f t) :=
  fun g hg => hasFlag_setFlag_of_hasFlag (h g hg)

theorem FlagsKept.setFlagIf {c : Bool} {f : Flag} (h : FlagsKept s t) : FlagsKept s (setFlagIf c f t) :=
  fun g hg => hasFlag_setFlagIf_of_hasFlag (h g hg)

/-! ## The operations that set flags -/

theorem placeAudio_flagsKept (f : AudioFrame) (s : State) : FlagsKept s (placeAudio f s) := by
  have hflags := placeAudio_flags f s
  split at hflags
  · exact .of_withFlag hflags
  · exact .of_eq hflags

/-- Station Control's moves set CLASH on entry to CLASHED, FULL on entry to LISTEN-ONLY, and no other flag. -/
theorem listeningExpiry_flagsKept (s : State) : FlagsKept s (listeningExpiry s) := by
  cases h : numberChoice s with
  | none => exact listeningExpiry_of_none h ▸ .of_withFlag (enterListenOnly_flags s)
  | some m => exact listeningExpiry_of_some h ▸ .of_eq (by simp)

theorem settleClash_flagsKept (v : UnitId) (s : State) : FlagsKept s (settleClash v s) := by
  unfold settleClash
  split
  · split <;> exact .of_eq (by simp)
  · split
    · split
      · exact .of_eq (by simp)
      · exact .of_withFlag (enterListenOnly_flags s)
    · exact .of_eq rfl

theorem clashPath_flagsKept (f : AirFrame) (s : State) : FlagsKept s (clashPath f s) := by
  unfold clashPath
  split
  · split
    · exact .of_eq rfl
    · exact .of_withFlag (enterClashed_flags s)
  · split
    · exact settleClash_flagsKept f.unitId s
    · exact .of_eq rfl
  all_goals exact .of_eq rfl

theorem adoptOffer_flagsKept (f : AirFrame) (s : State) : FlagsKept s (adoptOffer f s) := by
  unfold adoptOffer
  split
  · exact .of_withFlag (f := .paired) (by simp)
  · exact .of_eq rfl

/-- An accepted frame sets FULL where it is refused at capacity (R70). -/
theorem acceptFrame_flagsKept (f : AirFrame) (s : State) : FlagsKept s (acceptFrame f s) := by
  have hmoved : FlagsKept s (migrationTest f s) := .of_eq (by simp)
  obtain ⟨-, e⟩ | ⟨-, e⟩ := acceptFrame_cases f s <;> rw [e]
  · exact hmoved.trans (.of_withFlag (f := .full) (by simp [refuseFrame]))
  · exact hmoved.trans (.of_eq (by simp))

theorem judgeFrame_flagsKept (s : State) : FlagsKept s (judgeFrame s) := by
  obtain e | ⟨f, e⟩ | ⟨f, -, -, ⟨-, -, e⟩ | ⟨-, -, -, e⟩ | ⟨-, -, -, e⟩⟩ := judgeFrame_cases s <;> rw [e]
  · exact .of_eq rfl
  · exact .of_withFlag (setFlag_flags f s)
  · exact adoptOffer_flagsKept f s
  · exact clashPath_flagsKept f s
  · exact acceptFrame_flagsKept f s

/-! ## The air tick -/

theorem scheduled_flagsKept (s : State) : FlagsKept s (scheduled s) := by
  have hpaced : FlagsKept s (pacedTransmit s) := by
    obtain e | ⟨f, v, -, -, rfl | rfl | rfl, e⟩ := pacedTransmit_cases s <;> rw [e]
    · exact .of_eq rfl
    · exact placeAudio_flagsKept f _
    · exact .trans (.of_eq (by simp)) (placeAudio_flagsKept f _)
    · exact .trans (.of_withFlag (setFlag_flags .underrun s)) (placeAudio_flagsKept f _)
  exact hpaced.trans (.of_eq (by simp))

theorem tableTick_flagsKept (s : State) : FlagsKept s (tableTick s) :=
  .setFlagIf (.of_eq (by simp))

theorem controlTick_flagsKept (s : State) : FlagsKept s (controlTick s) := by
  have hflags := controlTick_flags s
  split at hflags
  · exact .of_withFlag hflags
  · exact .of_eq hflags

theorem airTickInOrder_flagsKept (o : Bool) (s : State) : FlagsKept s (airTickInOrder o s) := by
  have hlast (v : State) : FlagsKept v (storeTick (windowTick v)) := .of_eq (by simp)
  rw [airTickInOrder_eq]
  refine .trans ?_ (hlast _)
  cases o with
  | true => exact ((scheduled_flagsKept s).trans (controlTick_flagsKept _)).trans (tableTick_flagsKept _)
  | false => exact ((scheduled_flagsKept s).trans (tableTick_flagsKept _)).trans (controlTick_flagsKept _)

theorem airTick_flagsKept (s : State) : FlagsKept s (airTick s) := by
  have hdrawn : FlagsKept s (orderDrawn s) := .of_eq rfl
  exact hdrawn.trans (airTickInOrder_flagsKept (Config.choiceBeforeTimeouts s.tickDraws) _)

/-! ## The block event -/

/-- A valid word in which CLEAR does not rise sets PAIRED where it creates a tag, and clears nothing
(R50, R161, R169). -/
theorem takeWord_flagsKept {w : BitVec 16} (h : rises wordClear s.lap.heldWord w = false) :
    FlagsKept s (takeWord w s) := by
  have hbefore (forgets : Bool) : FlagsKept s (beforePair false forgets s) := .of_eq (beforePair_flags false forgets s)
  have hopened (v : State) : FlagsKept v (openPairing v) := by
    rw [openPairing_eq]
    split
    · exact .of_withFlag (joinGroup_flags _ _)
    · exact .of_eq rfl
  rw [takeWord_eq, h]
  refine .trans ?_ (.of_eq rfl)
  split
  · exact (hbefore _).trans (hopened _)
  · exact hbefore _

/-- CLEAR rises in no word that is 1 there only where the held word is. -/
theorem rises_eq_false {field : BitVec 16 → Bool} {held new : BitVec 16}
    (h : field new = true → field held = true) : rises field held new = false := by
  cases hnew : field new with
  | false => simp [rises, hnew]
  | true => simp [rises, h hnew]

theorem takeControl_flagsKept {w : Option (BitVec 16)}
    (h : ∀ v : BitVec 16, w = some v → wordValid v = true → wordClear v = true → wordClear s.lap.heldWord = true) :
    FlagsKept s (takeControl w s) := by
  cases w with
  | none => exact .of_eq rfl
  | some v =>
    cases hv : wordValid v with
    | false => exact .of_eq (by rw [takeControl_of_invalid hv])
    | true =>
      rw [takeControl_of_valid hv]
      exact takeWord_flagsKept (rises_eq_false (h v rfl hv))

/-- The hand-over sets SUPERSEDED at most (R21, R25). -/
theorem captureHandover_flagsKept (b : Block) (s : State) : FlagsKept s (captureHandover b s) := by
  have hcounted : FlagsKept s (countedOn s) := .of_eq rfl
  cases h : s.settings.cadence with
  | paced =>
    rw [captureHandover_of_paced h]
    unfold holdBlock
    split
    · exact .of_eq rfl
    · exact .setFlagIf (.of_eq rfl)
  | onData =>
    rw [captureHandover_of_onData h, onDataTransmit_eq]
    split
    · exact hcounted.trans (placeAudio_flagsKept _ _)
    · exact hcounted

/-- The takes set PEER_LAPSE at most (R91). -/
theorem mixAndReport_flagsKept (b : Block) (s : State) : FlagsKept s (mixAndReport b s) := by
  have htakes : FlagsKept s (afterTakes s) := by
    unfold afterTakes
    exact .setFlagIf (.of_eq rfl)
  exact htakes.trans (.of_eq (mixAndReport_flags b s))

theorem blockEvent_flagsKept {adi : List Bool}
    (h : FlagsKept s (takeControl (controlWord s.settings adi) s)) : FlagsKept s (blockEvent adi s) :=
  (h.trans (captureHandover_flagsKept _ _)).trans (mixAndReport_flagsKept _ _)

/-! ## Lock (R154, R155) -/

theorem loseLock_flagsKept (m : Nat) (s : State) : FlagsKept s (loseLock m s) := by
  unfold loseLock
  exact .setFlag (.of_eq rfl)

theorem markLocked_flagsKept (n : Nat) (s : State) : FlagsKept s (markLocked n s) := by
  unfold markLocked
  split
  · exact .of_eq rfl
  · exact loseLock_flagsKept 1 s

/-! ## Every event -/

/-- Of the events that reach the flags, only a power-on and a rising CLEAR clear any (R168, R169). -/
theorem exec_flagsKept {c : Instr} (he : exec c s = .next t) (hp : ¬ PowersOn c)
    (hclear : ∀ w : BitVec 16, TakesWord w c s → wordClear w = true → wordClear s.lap.heldWord = true) :
    FlagsKept s t := by
  have hf := exec_leavesAllBut c he
  cases c with
  | resetnLow => exact absurd (.inl rfl) hp
  | startUpReadComplete smi => exact absurd (.inr ⟨smi, rfl⟩) hp
  | frameArrival =>
    obtain ⟨-, rfl⟩ | ⟨-, -, rfl⟩ | ⟨-, -, rfl⟩ := execFrameArrival_cases he
    · exact .of_eq rfl
    · exact .of_eq rfl
    · have hended : FlagsKept s (endReception s) := .of_eq rfl
      exact hended.trans (judgeFrame_flagsKept _)
  | airTick =>
    obtain ⟨-, rfl⟩ | ⟨-, rfl⟩ := execAirTick_cases he
    · exact .of_eq rfl
    · exact airTick_flagsKept s
  | listeningPeriodExpiry =>
    obtain rfl | ⟨-, -, rfl⟩ := execListeningPeriodExpiry_cases he
    · exact .of_eq rfl
    · exact listeningExpiry_flagsKept s
  | peerLost k =>
    obtain rfl | ⟨-, -, -, rfl⟩ := execPeerLost_cases he
    · exact .of_eq rfl
    · exact .setFlag (.of_eq (by simp))
  | blockEvent adi =>
    obtain ⟨-, rfl⟩ | ⟨hends, rfl⟩ := execBlockEvent_cases he
    · exact .of_eq rfl
    · exact blockEvent_flagsKept
        (takeControl_flagsKept fun w hword hv => hclear w ⟨adi, ⟨rfl, hends⟩, hword, hv⟩)
  | queueLapse k =>
    obtain rfl | ⟨-, -, rfl⟩ := execQueueLapse_cases he
    · exact .of_eq rfl
    · exact .setFlag (.of_eq (by simp))
  | computationComplete =>
    obtain ⟨-, rfl⟩ | ⟨-, rfl⟩ := execComputationComplete_cases he
    · exact .of_eq rfl
    · exact .setFlagIf (.setFlagIf (.of_eq rfl))
  | frameMark n =>
    obtain rfl | ⟨-, -, rfl⟩ | ⟨-, -, rfl⟩ := execFrameMark_cases he
    · exact .of_eq rfl
    · exact .of_eq (by simp)
    · exact markLocked_flagsKept n s
  | missedMark =>
    obtain rfl | ⟨-, -, rfl⟩ | ⟨-, -, rfl⟩ := execMissedMark_cases he
    · exact .of_eq rfl
    · exact .of_eq rfl
    · exact loseLock_flagsKept 0 s
  | writeCompletion first second =>
    obtain rfl | ⟨-, rfl⟩ := execWriteCompletion_cases he
    · exact .of_eq rfl
    · exact .setFlagIf (.of_eq rfl)
  | startUp | receptionStart | blankedRxvFall | byteComplete | presenceCountExpiry | offerCountExpiry
  | clashWaitExpiry | listenOnlyRetry | windowClose | heardTimeout | stale | cbsyRise | cbsyFall | gapExpiry
  | transmissionEnd | driftWindowClose | tagWriteStart | writeTransactionEnd | writeTimeEnd | portFrameEnd =>
    exact .of_eq (hf.flags (by simp [reaches]))

end Kept

/-- Settles O5: every event but a power-on keeps the flags set, where CLEAR does not rise. -/
theorem flagStaysSetUntilClearOrPowerOn : Obligations.FlagStaysSetUntilClearOrPowerOn :=
  fun _ _ _ f he hp hclear => exec_flagsKept he hp hclear f

end Sys2Proof.Machine

/-! # One step: the event at the front of the queue, run with the queue's rest -/

namespace Sys2Proof.Machine

theorem step_of_pending_cons {s : State} {c : Instr} {rest : List Instr} (h : s.pending = c :: rest) :
    step s = exec c { s with pending := rest } := by
  rw [step, h]

/-- On an empty queue the block idles (notes/assumptions/3.md). -/
theorem step_of_pending_nil {s : State} (h : s.pending = []) : step s = .next s := by
  rw [step, h]

/-- Settles O1: the queue is not empty, or it is. -/
theorem stepTakesFrontEvent : Obligations.StepTakesFrontEvent :=
  ⟨fun _ _ _ => step_of_pending_cons rfl, fun _ => step_of_pending_nil⟩

end Sys2Proof.Machine
